-- ==== Sys2Proof/Word.lean ====
section
/-! DEFINITION. The byte of the part's serial paths (11. Frame and Table Formats: every layout is given in
bytes) and the widths of the part's modulo numbers. -/

namespace Sys2Proof

/-- One byte of a rail, mill line or service bus frame. -/
abbrev Byte := BitVec 8

/-- The frame pulse counter and the samples taken of it (R44: a modulo number of 32 bits). -/
abbrev PulseWord := BitVec 32

/-- The doff number, the shift number, the entry number and the stall number (modulo 65,536). -/
abbrev Modulo16 := BitVec 16

end Sys2Proof
end

