-- ==== Sys2Proof/Syntax.lean ====
section
/-! DEFINITION. The commands of the part: `Instr`, one constructor per row of spec/opcode_table.json, with the
operands the rules give each, and the two smaller types that are read from frames: `UnitMsg` (what a service bus
unit's answer carries, 11.3) and `Request` (what a management request's payload asks, 11.5). -/

namespace Sys2Proof

/-- The two sides of the frame. -/
inductive Side where
  | a | b
deriving DecidableEq, Repr

/-- The two ports of the mill line (R171). -/
inductive Port where
  | upstream | downstream
deriving DecidableEq, Repr

/-- The ceiling modes, least rank first (7.1). -/
inductive CeilingMode where
  | halt | stop | crawl | trim | full
deriving DecidableEq, Repr

/-- The eight condition rows, in the order of the row table of 7.1. -/
inductive RowName where
  | railA | railB | breakRate | downLimit | doff | doffFault | panelStop | overrideRow
deriving DecidableEq, Repr

/-- What a carriage's DONE reports (11.5: PIECED 0 to ABORTED 4). -/
inductive CarriageOutcome where
  | pieced | failed | noRoving | blocked | aborted
deriving DecidableEq, Repr

/-- A carriage's direction; `up` is toward higher spindle numbers (4.5). -/
inductive Direction where
  | up | down
deriving DecidableEq, Repr

/-- The message part of a unit's answer (11.3). `other` is a message the formats chapter does not list, or one
whose arguments do not have the listed form. -/
inductive UnitMsg where
  | accept (seq : Bool)
  | done (seq : Bool) (outcome : CarriageOutcome)
  | position (spindle : Nat) (direction : Direction)
  | status (ready : Bool)
  | ready
  | doffDone
  | fault
  | actual (mode : CeilingMode) (stopped atDoff fault : Bool)
  | changerDone (spindle : Nat)
  | changerFailed (spindle : Nat)
  | passReply (status : Byte) (data : List Byte)
  | other (code : Nat)
deriving DecidableEq, Repr

/-- The fields a THRESHOLDS write may carry, in the order of the presence mask of 11.5; `none` is a field the
mask leaves out. Each carried field is a raw two-byte number. -/
structure ThresholdFields where
  sweepMs : Option Nat := none
  thrRun : Option Nat := none
  thrBreak : Option Nat := none
  pMin : Option Nat := none
  downConfirm : Option Nat := none
  runConfirm : Option Nat := none
  verifySweeps : Option Nat := none
  mppQ : Option Nat := none
  maxWait : Option Nat := none
  jobLimit : Option Nat := none
  attemptsMax : Option Nat := none
  downLimit : Option Nat := none
  stopLimit : Option Nat := none
  doffLimit : Option Nat := none
  settleSweeps : Option Nat := none
  transportStation : Option Nat := none
  transportLimit : Option Nat := none
  trimOn : Option Nat := none
  trimOff : Option Nat := none
  blockSweeps : Option Nat := none
deriving DecidableEq, Repr

/-- An article record as a write carries it: raw numbers, in the order of the table of 5.2. -/
structure ArticleFields where
  number : Nat
  texX100 : Nat
  tpm : Nat
  draftX100 : Nat
  fullCopM : Nat
  bobbinM : Nat
  prewarnM : Nat
  rampM : Nat
  deferM : Nat
  shortCopQ8 : Nat
deriving DecidableEq, Repr

/-- A ZONE_TABLE row as a write carries it (4.2): raw numbers; `enabled` 0 or 1, `side` 0 for A or 1 for B. -/
structure ZoneFields where
  enabled : Nat
  address : Nat
  side : Nat
  first : Nat
  last : Nat
deriving DecidableEq, Repr

/-- A SECTION_TABLE row as a write carries it (6.2): raw numbers. -/
structure SectionFields where
  enabled : Nat
  side : Nat
  first : Nat
  last : Nat
  triggerCount : Nat
  reserveM : Nat
  exhaustM : Nat
deriving DecidableEq, Repr

/-- The parts one CHANNEL_CONTROL command may name (R85). -/
structure ChannelParts where
  holdSet : Bool := false
  holdClear : Bool := false
  blockSet : Bool := false
  blockClear : Bool := false
  autoHoldSet : Bool := false
  autoHoldClear : Bool := false
  seqSet0 : Bool := false
  seqSet1 : Bool := false
deriving DecidableEq, Repr

/-- What the payload of a management request asks for, after its tag (11.5). Arguments are raw numbers. -/
inductive Request where
  | thresholdsWrite (w : ThresholdFields)
  | unitsWrite (address role : Nat)
  | ceilingRowsWrite (row enable lock dwellMin : Nat)
  | articleActiveWrite (w : ArticleFields)
  | articleNextWrite (w : ArticleFields)
  | articleNextEmpty
  | alertEnable (causes : List (Nat × Nat))
  | spindleMapWrite (side installed rovingStop : Nat)
  | zoneTableWrite (row : Nat) (w : ZoneFields)
  | sectionTableWrite (row : Nat) (w : SectionFields)
  | maskTableWrite (first last override : Nat)
  | readThresholds
  | lengthStatus
  | piecingStatus
  | doffStatus
  | ceilingStatus
  | shiftStatus
  | busStatus
  | railStatus (side : Nat)
  | creelStatus (first last : Nat)
  | spindleRecords (first last : Nat)
  | lineStatus
  | shiftClose
  | doffNow
  | doffDefer
  | presetBuild (length : Nat)
  | spindleMask (first last kind : Nat)
  | spindleUnmask (first last : Nat)
  | clearRed (first last : Nat)
  | channelControl (channel : Nat) (parts : ChannelParts)
  | ceilingOverride (mode : Option Nat)
  | releaseCeilingRow (row : Nat)
  | releaseDoff
  | releaseSection (row : Nat)
  | passRead (unit register count : Nat)
  | passWrite (unit register : Nat) (data : List Byte)
  | alertAck (causes : List Nat)
  | sideReset (side : Nat)
  | restart
  /-- A request code the part has, whose arguments are refused with RANGE whatever the state is: a payload shorter
  than its code needs (R183), another slot or instruction of an ARTICLE write (11.5), another target kind of a
  RELEASE (R175). -/
  | outOfRange (code : Nat)
  /-- A request code the part does not have (R174). -/
  | unknown (code : Nat)
deriving DecidableEq, Repr

/-- The commands of the part: one constructor per row of spec/opcode_table.json, in the table's order.

`src` and `tag` are the station a management request came from and its tag. `addr` and `cause` of a unit's message
are the bus address the answer carries and the cause flag it reports (R163, R166). -/
inductive Instr where
  | powerOn (straps : BitVec 6)
  | warmRestart
  | sweepStart (side : Side)
  | sweepClose (side : Side)
  | headReplyBlock (side : Side) (block : List Byte)
  | encoderPulse
  | pollCycleStart
  | goodAnswer (frame : List Byte)
  | missedAnswer
  | missedPollsLimit (addr : Nat)
  | accept (addr : Nat) (cause : Bool) (seq : Bool)
  | done (addr : Nat) (cause : Bool) (seq : Bool) (outcome : CarriageOutcome)
  | position (addr : Nat) (cause : Bool) (spindle : Nat) (direction : Direction)
  | status (addr : Nat) (cause : Bool) (ready : Bool)
  | ready (addr : Nat) (cause : Bool)
  | doffDone (addr : Nat) (cause : Bool)
  | fault (addr : Nat) (cause : Bool)
  | actual (addr : Nat) (cause : Bool) (mode : CeilingMode) (stopped atDoff driveFault : Bool)
  | creelChangerDone (addr : Nat) (cause : Bool) (spindle : Nat)
  | creelChangerFailed (addr : Nat) (cause : Bool) (spindle : Nat)
  | passThroughReply (addr : Nat) (cause : Bool) (status : Byte) (data : List Byte)
  | offerWithdrawn (channel : Nat)
  | passTimeout
  | jobTimerExpiry (channel : Nat)
  | cancelTimerExpiry (channel : Nat)
  | stopTimerExpiry
  | clearTimerExpiry
  | doffTimerExpiry
  | transportTimerExpiry (row : Nat)
  | backoffTimerExpiry (row : Nat)
  | changeTimerExpiry
  | graceTimerExpiry
  | linkTimeout (port : Port)
  | headLost (side : Side) (head : Nat)
  | huntLimit (side : Side)
  | settleSweepsReached
  | dwellDrop (row : RowName)
  | rateBlockEnd (side : Side)
  | disobeyLimit (mode : CeilingMode)
  | panelStop (level : Bool)
  | doffCall (level : Bool)
  | creelDone (level : Bool)
  | lampTest (level : Bool)
  | idleFill (port : Port)
  | millLineFrame (port : Port) (frame : List Byte)
  | upstreamFrameEnd
  | downstreamFrameEnd
  | transportAck (src row : Nat)
  | exchStart (src row : Nat)
  | exchDone (src row replaced : Nat)
  | reject (src row reason : Nat)
  | unknownTable (src tag code : Nat)
  | thresholdsWrite (src tag : Nat) (w : ThresholdFields)
  | unitsWrite (src tag address role : Nat)
  | ceilingRowsWrite (src tag row enable lock dwellMin : Nat)
  | articleActiveWrite (src tag : Nat) (w : ArticleFields)
  | articleNextWrite (src tag : Nat) (w : ArticleFields)
  | articleNextEmpty (src tag : Nat)
  | alertEnable (src tag : Nat) (causes : List (Nat × Nat))
  | spindleMapWrite (src tag side installed rovingStop : Nat)
  | zoneTableWrite (src tag row : Nat) (w : ZoneFields)
  | sectionTableWrite (src tag row : Nat) (w : SectionFields)
  | maskTableWrite (src tag first last override : Nat)
  | readThresholds (src tag : Nat)
  | lengthStatus (src tag : Nat)
  | piecingStatus (src tag : Nat)
  | doffStatus (src tag : Nat)
  | ceilingStatus (src tag : Nat)
  | shiftStatus (src tag : Nat)
  | busStatus (src tag : Nat)
  | railStatus (src tag side : Nat)
  | creelStatus (src tag first last : Nat)
  | spindleRecords (src tag first last : Nat)
  | lineStatus (src tag : Nat)
  | shiftClose (src tag : Nat)
  | doffNow (src tag : Nat)
  | doffDefer (src tag : Nat)
  | presetBuild (src tag length : Nat)
  | spindleMask (src tag first last kind : Nat)
  | spindleUnmask (src tag first last : Nat)
  | clearRed (src tag first last : Nat)
  | holdSet (src tag channel : Nat)
  | holdClear (src tag channel : Nat)
  | blockSet (src tag channel : Nat)
  | blockClear (src tag channel : Nat)
  | autoHoldSet (src tag channel : Nat)
  | autoHoldClear (src tag channel : Nat)
  | seqSet (src tag channel : Nat) (value : Bool)
  | ceilingOverride (src tag : Nat) (mode : Option Nat)
  | releaseCeilingRow (src tag row : Nat)
  | releaseDoff (src tag : Nat)
  | releaseSection (src tag row : Nat)
  | passRead (src tag unit register count : Nat)
  | passWrite (src tag unit register : Nat) (data : List Byte)
  | alertAck (src tag : Nat) (causes : List Nat)
  | sideReset (src tag side : Nat)
  | restart (src tag : Nat)
deriving DecidableEq, Repr

end Sys2Proof
end

