-- ==== Sys2Proof/Decode.lean ====
section
/-! DEFINITION. Reading a command from a table word. The table gives bits to none of its rows (a command reaches the
part as a frame, a pin or a timer, not as an instruction word), so no word spells a command (log entry 5). -/

namespace Sys2Proof

/-- The command that a word of the table spells: none, for the table gives no row any bits. -/
def decodeTableWord (_nbits _w : Nat) : Option Instr := none

end Sys2Proof
end

