-- ==== Sys2Proof/Machine/State.lean ====
section
/-! DEFINITION. The state of the part, block by block, as plain data: everything the spec gives the JM-2048, the
values it takes at power-on (`State.reset`), and the queue of commands that wait. Each structure's docstring names
the table of the spec it follows. Quantities with a saturating range are natural numbers (the operations saturate
them), modulo numbers are bit vectors. A timer is the number of milliseconds it has left while it runs. -/

namespace Sys2Proof.Machine

/-- One value for each side of the frame. -/
structure PerSide (α : Type) where
  a : α
  b : α
deriving DecidableEq, Repr

/-- A timer: `none` while stopped, the milliseconds left while it runs. -/
abbrev Timer := Option Nat

/-! ### Rail Controller (chapter 1) -/

/-- State of a head record (1.6; numbered OK 0, ERRORED 1, LOST 2). -/
inductive HeadState where
  | ok | errored | lost
deriving DecidableEq, Repr

/-- A head record (1.6). -/
structure Head where
  state : HeadState := .ok
  erroredRun : Nat := 0
  goodRun : Nat := 0
deriving DecidableEq, Repr

/-- One spindle field of a head reply block (1.4). -/
structure SpindleField where
  count : Nat
  sensorFault : Bool
deriving DecidableEq, Repr

/-- Where a head stands in the open window (R3, R6). -/
inductive HeadWindow where
  | unanswered
  | answered (fields : List SpindleField)
  | errored
deriving DecidableEq, Repr

/-- Rail state of a side (1.7; IDLE 0 to FAULT 4). -/
inductive RailState where
  | idle | hunt | sync | degraded | fault
deriving DecidableEq, Repr

/-- The five rail counters of a side (R8), each 0 to 65,535, saturating. -/
structure RailCounters where
  badCheck : Nat := 0
  stray : Nat := 0
  late : Nat := 0
  wrongEcho : Nat := 0
  duplicate : Nat := 0
deriving DecidableEq, Repr

/-- The sweep-start frame last sent down a side's rail (R4). -/
structure SweepStartFrame where
  side : Side
  sweepNumber : BitVec 4
  railFault : Bool
  map : List Bool
deriving DecidableEq, Repr

/-- What the Rail Controller keeps for one side (chapter 1; reset values R17). -/
structure Rail where
  installed : Nat := 0
  rovingStop : Bool := false
  state : RailState := .idle
  huntCount : Nat := 0
  noGoodRun : Nat := 0
  sweepNumber : BitVec 4 := 0
  sweepIndex : Nat := 0
  sweepTimer : Timer := none
  windowTimer : Timer := none
  windowOpen : Bool := false
  heads : List Head := []
  window : List HeadWindow := []
  currentMap : List Bool := []
  priorMap : List Bool := []
  counters : RailCounters := {}
  lastFrame : Option SweepStartFrame := none
deriving DecidableEq, Repr

/-! ### Spindle Table (chapter 2) -/

/-- The eleven spindle states (2.1; UNKNOWN 0 to DOFF_PAUSE 10). -/
inductive SpindleState where
  | unknown | running | slipping | suspect | down | piecing | verify | red | rovingOut | masked | doffPause
deriving DecidableEq, Repr

/-- Mask entry of a spindle (2.1). -/
inductive MaskKind where
  | none | operator | sensorFault | repair
deriving DecidableEq, Repr

/-- Commissioning override of a spindle (R42). -/
inductive Override where
  | none | forceDown | forceRun
deriving DecidableEq, Repr

/-- A spindle record (2.1), its four shift counters and its mask table entry included. -/
structure Spindle where
  state : SpindleState := .unknown
  belowRun : Nat := 0
  aboveRun : Nat := 0
  attempts : Nat := 0
  queued : Bool := false
  copMm : Nat := 0
  provisionalMm : Nat := 0
  downSince : Option Nat := Option.none
  observedRun : Option Bool := Option.none
  verifyCount : Option Nat := Option.none
  afterDoff : Bool := false
  endsDown : Nat := 0
  downSweeps : Nat := 0
  slipSweeps : Nat := 0
  sensorFaults : Nat := 0
  mask : MaskKind := .none
  override : Override := .none
deriving DecidableEq, Repr

/-- The THRESHOLDS table: every frame-wide parameter of 1.2, 2.2, 4.1, 5.1, 6.2, 7.3 and 8.4. -/
structure Thresholds where
  sweepMs : Nat := 1000
  thrRun : Nat := 230
  thrBreak : Nat := 64
  pMin : Nat := 8
  downConfirm : Nat := 2
  runConfirm : Nat := 2
  verifySweeps : Nat := 3
  mppQ : Nat := 1024
  maxWait : Nat := 600
  jobLimit : Nat := 60
  attemptsMax : Nat := 3
  downLimit : Nat := 32
  stopLimit : Nat := 90
  doffLimit : Nat := 300
  settleSweeps : Nat := 5
  transportStation : Nat := 0
  transportLimit : Nat := 900
  trimOn : Nat := 60
  trimOff : Nat := 30
  blockSweeps : Nat := 300
deriving DecidableEq, Repr

/-! ### Length Unit (chapter 3) -/

/-- What the Length Unit keeps for one side (R45, R47, R60). -/
structure LengthSide where
  lastSample : Option PulseWord := none
  held : Nat := 0
  carry : Nat := 0
  lastP : Nat := 0
  lastD : Nat := 0
deriving DecidableEq, Repr

/-- The Length Unit (chapter 3; reset values R61). -/
structure LengthUnit where
  pulses : PulseWord := 0
  sides : PerSide LengthSide := ⟨{}, {}⟩
deriving DecidableEq, Repr

/-! ### Piecing Dispatcher (chapter 4) -/

/-- A ZONE_TABLE row (4.2). -/
structure Zone where
  enabled : Bool := false
  address : Option Nat := none
  side : Side := .a
  first : Nat := 0
  last : Nat := 15
deriving DecidableEq, Repr

/-- Channel states, in the order of the record table of 4.5. -/
inductive ChannelState where
  | offline | idle | offered | busy | cancelling
deriving DecidableEq, Repr

/-- Why a channel is OFFLINE (4.5). -/
inductive OfflineCause where
  | unit | misses
deriving DecidableEq, Repr

/-- Why a job was cancelled (4.5). -/
inductive CancelCause where
  | timeout | cancelled | cleared | reset
deriving DecidableEq, Repr

/-- A channel record (4.5; reset values R88). -/
structure Channel where
  state : ChannelState := .offline
  job : Option Nat := none
  seq : Bool := false
  hold : Bool := false
  holdPending : Bool := false
  block : Bool := false
  autoHold : Bool := false
  heldByDoff : Bool := false
  offlineCause : Option OfflineCause := some .unit
  cancelCause : Option CancelCause := none
  offerMisses : Nat := 0
  offerPolls : Option Nat := none
  jobTimer : Timer := none
  cancelTimer : Timer := none
  carriageReady : Bool := true
  parkSent : Bool := false
  position : Nat := 0
  direction : Direction := .up
deriving DecidableEq, Repr

/-- The latest down-limit count of a side, held as the spindles it counts: the DOWN ones that a false piece returned and
that no channel has taken since (R78), the other DOWN ones with queued no, and the RED ones (R67); and the DOWN ones in no
enabled zone, for the lamp fact. A spindle that leaves DOWN or RED between two closes is taken out of them (R35, R39, R41,
R78). -/
structure DownLoad where
  falsePieces : List Nat := []
  unqueued : List Nat := []
  reds : List Nat := []
  outsideZones : List Nat := []
deriving DecidableEq, Repr

/-- What a down-limit count comes to: the number and the two lamp facts (R67). -/
structure DownFigures where
  count : Nat
  redStands : Bool
  downOutsideZones : Bool
deriving DecidableEq, Repr

/-- The Piecing Dispatcher: zone rows, break queues (oldest first), channels, protection, down load (chapter 4). -/
structure Dispatcher where
  zones : Vector Zone 4 := Vector.replicate 4 {}
  queues : Vector (List Nat) 4 := Vector.replicate 4 []
  channels : Vector Channel 4 := Vector.replicate 4 {}
  protection : Bool := false
  downLoad : PerSide DownLoad := ⟨{}, {}⟩
deriving DecidableEq, Repr

/-! ### Doff Controller (chapter 5) -/

/-- The doff states, in the order of the table of 5.1. -/
inductive DoffState where
  | unconfigured | build | nearFull | full | doffing | settle | ramp | doffFault
deriving DecidableEq, Repr

/-- The state a doff fault interrupted (5.1). -/
inductive DoffOrigin where
  | full | doffing
deriving DecidableEq, Repr

/-- Why DOFF_FAULT was entered (5.1). -/
inductive FaultReason where
  | stopTimeout | doffTimeout | dofferFault | dofferOffline | restart
deriving DecidableEq, Repr

/-- An article record (5.2). -/
structure Article where
  number : Nat
  texX100 : Nat
  tpm : Nat
  draftX100 : Nat
  fullCopM : Nat
  bobbinM : Nat
  prewarnM : Nat
  rampM : Nat
  deferM : Nat
  shortCopQ8 : Nat
deriving DecidableEq, Repr

/-- One side of a cop record (R100). -/
structure CopSide where
  configured : Bool := false
  installed : Nat := 0
  empty : Nat := 0
  full : Nat := 0
  short : Nat := 0
  middle : Nat := 0
  totalMm : Nat := 0
deriving DecidableEq, Repr

/-- A cop record (R100). -/
structure CopRecord where
  sides : PerSide CopSide
  article : Nat
  doffNumber : Modulo16
  delivered : Nat
  sweepIndex : Nat
deriving DecidableEq, Repr

/-- The Doff Controller (5.1; reset values R110). -/
structure DoffUnit where
  state : DoffState := .unconfigured
  delivered : Nat := 0
  deferExt : Nat := 0
  deferTaken : Bool := false
  settleCount : Nat := 0
  settlePaused : Option Bool := none
  origin : Option DoffOrigin := none
  faultReason : Option FaultReason := none
  dofferReady : Bool := false
  driveAtDoff : Bool := false
  carriagesClear : Bool := false
  protecting : Bool := false
  stopTimer : Timer := none
  clearTimer : Timer := none
  doffTimer : Timer := none
  doffNumber : Modulo16 := 0
  lastCop : Option CopRecord := none
  active : Option Article := none
  next : Option Article := none
deriving DecidableEq, Repr

/-! ### Creel Controller (chapter 6) -/

/-- Bobbin states (6.1). -/
inductive BobbinState where
  | none | loaded | emptyEst | out
deriving DecidableEq, Repr

/-- A bobbin record (6.1). -/
structure Bobbin where
  state : BobbinState := .none
  remaining : Nat := 0
  remainder : Nat := 0
  noSingle : Bool := false
deriving DecidableEq, Repr

/-- Section states (6.2). -/
inductive SectionState where
  | supplied | low | requested | exchanging | stalled
deriving DecidableEq, Repr

/-- The configuration of a SECTION_TABLE row (6.2). -/
structure SectionConfig where
  enabled : Bool := false
  side : Side := .a
  first : Nat := 0
  last : Nat := 7
  triggerCount : Nat := 1
  reserveM : Nat := 0
  exhaustM : Nat := 0
deriving DecidableEq, Repr

/-- A creel section: configuration and running state (6.2; reset values R130). -/
structure Section where
  config : SectionConfig := {}
  state : SectionState := .supplied
  lowCount : Nat := 0
  resendCount : Nat := 0
  transportTimer : Timer := Option.none
  backoffTimer : Timer := Option.none
  rejectReason : Option Nat := Option.none
  stallNumber : Option Modulo16 := Option.none
deriving DecidableEq, Repr

/-- An entry of the transport request queue (R119). -/
structure QueueEntry where
  row : Nat
  urgent : Bool
  entryNumber : Modulo16
deriving DecidableEq, Repr

/-- The Creel Controller (chapter 6). `queue` holds the transport request queue in the order its entries were
appended (R119: urgent entries stand first; `transportQueue` of Machine/Flags.lean gives that order); `stalled` holds
the STALLED rows, oldest entry first (R125). -/
structure CreelUnit where
  sections : Vector Section 64 := Vector.replicate 64 {}
  queue : List QueueEntry := []
  stalled : List Nat := []
  lastEntry : Modulo16 := 0
  lastStall : Modulo16 := 0
  inFlight : Option Nat := Option.none
  waiting : List Nat := []
  changeTimer : Timer := Option.none
  discardedAnswers : Nat := 0
  loads : Nat := 0
  rovingLamp : Bool := false
deriving DecidableEq, Repr

/-! ### Drive Ceiling Unit (chapter 7) -/

/-- A condition row (7.1; reset values R146). `mode` is `none` while the row has none (the DOFF row between doffs,
the OVERRIDE row before its first mode); `positioning` is the doff positioning flag of the DOFF row. -/
structure CeilingRow where
  enable : Bool := true
  lock : Bool := false
  dwellMin : Nat := 0
  cause : Bool := false
  active : Bool := false
  latched : Bool := false
  dwellCount : Nat := 0
  mode : Option CeilingMode := some .trim
  positioning : Bool := false
deriving DecidableEq, Repr

/-- The rate history of a side (R136). -/
structure RateHistory where
  latest : Option Nat := none
  before : Option Nat := none
deriving DecidableEq, Repr

/-- The drive's ACTUAL report (R138). -/
structure Actual where
  mode : CeilingMode
  stopped : Bool
  atDoff : Bool
  fault : Bool
deriving DecidableEq, Repr

/-- The debounced panel levels and the output lines (7.5, 7.6, 11.6). -/
structure Lines where
  panelStop : Bool := false
  doffCall : Bool := false
  creelDone : Bool := false
  lampTest : Bool := false
  runPermit : Bool := false
  endLamp : Bool := false
  rovingLamp : Bool := false
  faultLamp : Bool := false
deriving DecidableEq, Repr

/-- One panel input (R144): the raw level of its line, and for how many samples in a row the line has shown a level other
than the debounced one. -/
structure PanelInput where
  raw : Bool := false
  samples : Nat := 0
deriving DecidableEq, Repr

/-- The panel input lines (7.6). -/
inductive PanelLine where
  | panelStop | doffCall | creelDone | lampTest
deriving DecidableEq, Repr

/-- The four panel inputs (7.6). -/
structure PanelInputs where
  panelStop : PanelInput := {}
  doffCall : PanelInput := {}
  creelDone : PanelInput := {}
  lampTest : PanelInput := {}
deriving DecidableEq, Repr

/-- The eight condition rows by name (7.1). -/
structure CeilingRows where
  railA : CeilingRow := {}
  railB : CeilingRow := {}
  breakRate : CeilingRow := {}
  downLimit : CeilingRow := {}
  doff : CeilingRow := { mode := none }
  doffFault : CeilingRow := { lock := true, mode := some .halt }
  panelStop : CeilingRow := { mode := some .stop }
  overrideRow : CeilingRow := { enable := false, mode := none }
deriving DecidableEq, Repr

/-- The Drive Ceiling Unit (chapter 7). `ceiling` and `positioning` are the sent ceiling (R134); `reevaluate` is set
from a warm restart to the first sweep close after it (R146). -/
structure CeilingUnit where
  rows : CeilingRows := {}
  ceiling : CeilingMode := .full
  positioning : Bool := false
  rates : PerSide RateHistory := ⟨{}, {}⟩
  lastActual : Option Actual := none
  confirmed : Bool := false
  disobey : Nat := 0
  graceTimer : Timer := none
  graceExpired : Bool := false
  startPending : Bool := false
  reevaluate : Bool := false
  lines : Lines := {}
  inputs : PanelInputs := {}
deriving DecidableEq, Repr

/-! ### Shift Accounting Unit (chapter 8) -/

/-- The counts of a shift record (8.1). -/
structure ShiftRecord where
  deliveredMm : Nat := 0
  spunMm : Nat := 0
  wasteMm : Nat := 0
  massAcc : Nat := 0
  evaluable : Nat := 0
  running : Nat := 0
  evaluableMs : Nat := 0
  endsDown : Nat := 0
  doffStartDowns : Nat := 0
  piecedCarriage : Nat := 0
  piecedOther : Nat := 0
  falsePieces : Nat := 0
  redEvents : Nat := 0
  rovingOutEvents : Nat := 0
  shortCops : Nat := 0
  doffs : Nat := 0
  sensorFaults : Nat := 0
deriving DecidableEq, Repr

/-- A closed record: the counts and the fields that name the shift (8.5). -/
structure ClosedRecord where
  counts : ShiftRecord := {}
  shiftNumber : Modulo16 := 0
  opening : Nat := 0
  closing : Nat := 0
  article : Nat := 0
deriving DecidableEq, Repr

/-- A rate block (8.4). -/
structure RateBlock where
  count : Nat := 0
  ends : Nat := 0
  evaluable : Nat := 0
  evaluableMs : Nat := 0
deriving DecidableEq, Repr

/-- What the Shift Accounting Unit keeps for one side (chapter 8). -/
structure ShiftSide where
  current : ShiftRecord := {}
  closed : ClosedRecord := {}
  opening : Nat := 0
  pending : Bool := false
  block : RateBlock := {}
deriving DecidableEq, Repr

/-- The Shift Accounting Unit (chapter 8; reset values R158). -/
structure ShiftUnit where
  shiftNumber : Modulo16 := 0
  sides : PerSide ShiftSide := ⟨{}, {}⟩
deriving DecidableEq, Repr

/-- The figures derived from a record (R150 to R152); `none` is "no data". -/
structure ShiftFigures where
  efficiency : Option Nat
  massG : Nat
  breakRate : Option Nat
deriving DecidableEq, Repr

/-! ### Service Bus Master (chapter 9) -/

/-- The roles of a unit (9.1). -/
inductive Role where
  | none | carriage | doffer | drive | creelChanger
deriving DecidableEq, Repr

/-- The states of a unit (9.1). -/
inductive UnitState where
  | absent | offline | online
deriving DecidableEq, Repr

/-- The part's answers to a unit's message (11.5). -/
inductive AnswerCode where
  | ack | late | refused
deriving DecidableEq, Repr

/-- A message for a unit's outbound slot (11.5). A CEILING is no slot message (R162). The Piecing Dispatcher's three keep
the channel that placed them (R80 asks for it); the frame does not carry it. -/
inductive BusMsg where
  | job (channel spindle : Nat) (seq : Bool)
  | cancel (channel : Nat) (seq : Bool)
  | park (channel : Nat)
  | doffPrepare
  | doffStart
  | singleChange (spindle : Nat)
  | passRead (register count : Nat)
  | passWrite (register : Nat) (data : List Byte)
deriving DecidableEq, Repr

/-- A unit record (9.1). `carried` says whether a poll has carried the slot message (R80); `waiting` holds the
messages of the unit's block that wait for the slot, in the order they were placed (R165). -/
structure BusUnit where
  role : Role := .none
  state : UnitState := .absent
  missedPolls : Nat := 0
  missedTotal : Nat := 0
  causeFlag : Bool := false
  slot : Option BusMsg := Option.none
  carried : Bool := false
  waiting : List BusMsg := []
  answer : Option AnswerCode := Option.none
deriving DecidableEq, Repr

/-- The ceiling part of a frame sent to the drive (R162). -/
structure CeilingPart where
  mode : CeilingMode
  positioning : Bool
  start : Bool
deriving DecidableEq, Repr

/-- The poll or probe in progress and what it carries (R161, R162). -/
structure Exchange where
  addr : Nat
  probe : Bool
  msg : Option BusMsg
  answer : Option AnswerCode
  ceiling : Option CeilingPart
deriving DecidableEq, Repr

/-- What a pass-through request asks (9.4). -/
inductive PassKind where
  | read (count : Nat)
  | write (data : List Byte)
deriving DecidableEq, Repr

/-- A pass-through request in the slot (9.4); `polls` is `none` while it is WAITING and the pass polls while it is
CARRIED. -/
structure PassRequest where
  src : Nat
  tag : Nat
  kind : PassKind
  addr : Nat
  register : Nat
  polls : Option Nat
deriving DecidableEq, Repr

/-- The Service Bus Master (chapter 9; reset values R170). `pass` is `none` while the slot is FREE. `begun` says
whether a cycle has begun since the reset; `exchanges` holds the polls and probes the present cycle still owes. -/
structure BusMaster where
  units : Vector BusUnit 7 := Vector.replicate 7 {}
  cycle : Nat := 0
  begun : Bool := false
  cycleTimer : Nat := 100
  exchanges : List (Nat × Bool) := []
  current : Option Exchange := Option.none
  pass : Option PassRequest := Option.none
deriving DecidableEq, Repr

/-! ### Mill Line Interface (chapter 10) -/

/-- The alert causes, by code 1 to 11 (11.5). -/
inductive AlertCause where
  | railFault | dofferFault | driveOffline | driveDisobey | carriageOffline | sectionStalled | panelStop
  | ceilingLocked | unitCause | reportGap | queueRelief
deriving DecidableEq, Repr

/-- An alert record (10.6). -/
structure AlertRecord where
  pending : Bool := false
  enabled : Bool := false
  occurrences : Nat := 0
  detail : Option Nat := none
  send : Bool := false
deriving DecidableEq, Repr

/-- How a job ended, as JOB_END names it (R74, R80, R81). -/
inductive JobEnding where
  | outcome (o : CarriageOutcome)
  | cancel (c : CancelCause)
deriving DecidableEq, Repr

/-- What a DRIVE_EVENT reports (R138, R140, R141). -/
inductive DriveEvent where
  | faultFlag (set : Bool)
  | disobey (reported carried : CeilingMode)
  | offline
deriving DecidableEq, Repr

/-- The reports of 11.5: fifteen EVENTs and two RECORDs, each with what its rule says it carries. -/
inductive ReportBody where
  | headState (side : Side) (head : Nat) (state : HeadState) (sweepIndex : Nat)
  | railState (side : Side) (old new : RailState) (lost sweepIndex : Nat)
  | spindleRed (side : Side) (spindle attempts sweepIndex : Nat)
  | channelState (channel : Nat) (state : ChannelState) (cause : Option OfflineCause)
  | jobEnd (channel spindle : Nat) (ending : JobEnding) (state : SpindleState) (attempts : Nat)
  | doffState (old new : DoffState) (delivered fullTarget : Nat) (doffNumber : Modulo16)
      (origin : Option DoffOrigin) (reason : Option FaultReason)
  | doffSoon (fullTarget delivered article : Nat)
  | sectionState (row : Nat) (side : Side) (old new : SectionState) (lowCount : Nat) (urgent : Option Bool)
      (resendCount : Nat) (reason : Option Nat) (replaced : Option Nat)
  | singleChange (spindle : Nat) (done : Bool)
  | ceilingRow (row : RowName) (active latched : Bool) (sweepIndex : Nat)
  | ceilingChange (old new : CeilingMode) (positioning : Bool) (rows : List RowName)
  | driveEvent (e : DriveEvent)
  | unitState (addr : Nat) (role : Role) (old new : UnitState) (missedTotal : Nat)
  | unitCause (addr : Nat) (role : Role) (value : Bool)
  | linkState (port : Port) (up : Bool)
  | cop (r : CopRecord)
  | shift (side : Side) (r : ClosedRecord) (f : ShiftFigures)
deriving DecidableEq, Repr

/-- A queued report message: its kind (RECORD or EVENT), the event_gap it carries (11.1, R178) and its body. -/
structure Report where
  record : Bool
  eventGap : Nat
  body : ReportBody
deriving DecidableEq, Repr

/-- An EXCHANGE_REQUEST transport frame (R120, 11.1). -/
structure ExchangeRequest where
  dest : Nat
  station : Nat
  row : Nat
  side : Side
  urgent : Bool
  bobbins : Nat
deriving DecidableEq, Repr

/-- An accepted table write, its values checked and clamped (R176). -/
inductive TableWrite where
  | thresholds (w : ThresholdFields)
  | units (addr : Nat) (role : Role)
  | ceilingRow (row : RowName) (enable lock : Bool) (dwellMin : Nat)
  | articleActive (r : Article)
  | articleNext (r : Article)
  | articleNextEmpty
  | alertEnable (causes : List (AlertCause × Bool))
  | spindleMap (side : Side) (installed : Nat) (rovingStop : Bool)
  | zone (row : Nat) (z : Zone)
  | creelSection (row : Nat) (c : SectionConfig)
  | mask (first last : Nat) (o : Override)
deriving DecidableEq, Repr

/-- An entry of the deferred write list (R176). `holdsPlace` is cleared by a warm restart, which frees every request
queue place and keeps the writes (R182). -/
structure DeferredWrite where
  src : Nat
  tag : Nat
  write : TableWrite
  clamped : Bool
  holdsPlace : Bool
deriving DecidableEq, Repr

/-- The reply codes of a management request (10.4). -/
inductive ReplyCode where
  | ok | okClamped | busy | range | conflict | protected_ | unknownTable | unitOffline | timeout | overrun
deriving DecidableEq, Repr

/-- RAIL_STATUS (R8). -/
structure RailStatus where
  counters : RailCounters
  state : RailState
  sweepNumber : BitVec 4
  sweepIndex : Nat
  lostCount : Nat
  noGoodRun : Nat
  huntCount : Nat
  installed : Nat
  rovingStop : Bool
  heads : List Head
deriving DecidableEq, Repr

/-- A break queue entry as PIECING_STATUS gives it (R87). -/
structure BreakEntry where
  spindle : Nat
  downSince : Option Nat
  age : Nat
deriving DecidableEq, Repr

/-- A transport queue entry as CREEL_STATUS gives it (R129). -/
structure TransportEntry where
  row : Nat
  state : SectionState
  urgent : Bool
  entryNumber : Modulo16
deriving DecidableEq, Repr

/-- CEILING_STATUS (R145): the rows, the effective ceiling with its flag, the drive record with the milliseconds left of
the grace timer, the rate histories, and the debounced levels with the outputs. -/
structure CeilingStatus where
  rows : CeilingRows
  ceiling : CeilingMode
  positioning : Bool
  lastActual : Option Actual
  confirmed : Bool
  disobey : Nat
  graceTimer : Timer
  graceExpired : Bool
  startPending : Bool
  rates : PerSide RateHistory
  lines : Lines
deriving DecidableEq, Repr

/-- A unit as BUS_STATUS gives it (R169): the slot by the type of its message, the answer field by its code (11.5). -/
structure UnitStatus where
  role : Role
  state : UnitState
  missedPolls : Nat
  missedTotal : Nat
  causeFlag : Bool
  slotType : Option Nat
  answerCode : Option Nat
deriving DecidableEq, Repr

/-- The pass-through slot as BUS_STATUS gives it while it is not FREE (R169); `polls` is `none` while it is WAITING. -/
structure PassStatus where
  tag : Nat
  unit : Nat
  register : Nat
  polls : Option Nat
deriving DecidableEq, Repr

/-- A write of the deferred write list as LINE_STATUS gives it (R175): its tag and its table's code (11.5). -/
structure WaitingWrite where
  tag : Nat
  table : Nat
deriving DecidableEq, Repr

/-- One side of SHIFT_STATUS (R157). -/
structure ShiftSideStatus where
  side : ShiftSide
  sweepIndex : Nat
  currentFigures : ShiftFigures
  closedFigures : ShiftFigures
deriving DecidableEq, Repr

/-- LINE_STATUS (R175). -/
structure LineStatus where
  station : Nat
  links : List Bool
  counters : List Nat
  fill : Nat
  eventGap : Nat
  recordGap : Nat
  highMark : Bool
  placesHeld : Nat
  deferred : List WaitingWrite
  alerts : List AlertRecord
deriving DecidableEq, Repr

/-- The data of a reply: what each read returns, and the figures the other replies carry. The timers of the channels, of
the doff record and of the sections are given in seconds left (R87, R109, R129). -/
inductive ReplyData where
  | none
  /-- the number of spindles changed (R38) -/
  | count (n : Nat)
  /-- the side whose close applied a write and that close's sweep index, or `none` for a write applied at once
  (R176) -/
  | applied (at_ : Option (Side × Nat))
  /-- a pass-through's status byte and data (R168) -/
  | pass (status : Byte) (data : List Byte)
  /-- the unit and register of a pass-through that ended without a reply (R168) -/
  | unitRegister (addr register : Nat)
  | thresholds (t : Thresholds)
  | length (u : LengthUnit) (delivered : Nat)
  | piecing (zones : List Zone) (channels : List Channel) (queues : List (List BreakEntry))
      (downLoad : PerSide DownFigures)
  | doff (u : DoffUnit) (fullTarget prewarn : Nat)
  | ceiling (c : CeilingStatus)
  | shift (shiftNumber : Modulo16) (sides : PerSide ShiftSideStatus)
  | bus (units : List UnitStatus) (pass : Option PassStatus) (cycle : Nat)
  | rail (r : RailStatus)
  | creel (sections : List Section) (queue : List TransportEntry) (inFlight : Option Nat) (waiting : List Nat)
      (discarded loads : Nat) (lamp : Bool) (bobbins : List Bobbin)
  | spindles (records : List Spindle)
  | line (l : LineStatus)
deriving DecidableEq, Repr

/-- A reply in the reply list (R173, 11.1). `sent` counts the frames of it whose transmission has begun; `restart`
marks the OK reply of an accepted RESTART (R177). -/
structure Reply where
  dest : Nat
  tag : Nat
  code : ReplyCode
  request : Nat
  data : ReplyData
  sent : Nat
  restart : Bool
deriving DecidableEq, Repr

/-- The frame on the upstream transmitter (R173). -/
inductive TxFrame where
  | forwarded (bytes : List Byte)
  | reply (r : Reply) (fragment : Nat) (last : Bool)
  | alert (c : AlertCause) (occurrences : Nat) (detail : Option Nat)
  | transport (f : ExchangeRequest)
  | report (r : Report)
deriving DecidableEq, Repr

/-- What the part keeps for one port (R171, R172). `silence` is the time left before the link goes DOWN. -/
structure PortState where
  up : Bool := false
  silence : Timer := none
  badFrame : Nat := 0
deriving DecidableEq, Repr

/-- The Mill Line Interface (chapter 10; reset values R182). `toUpstream` and `toDownstream` are the forward buffers
of the two directions of travel, `upTx` and `downTx` the frames on the two transmitters. `lastOwn` says that the
previous frame on the upstream transmitter was one of the part's own. `restartArmed` is set from an accepted RESTART
until it takes effect (R177). -/
structure MillLine where
  station : BitVec 6 := 0
  upstream : PortState := {}
  downstream : PortState := {}
  toUpstream : List (List Byte) := []
  toDownstream : List (List Byte) := []
  dropUpstream : Nat := 0
  dropDownstream : Nat := 0
  unknownFrame : Nat := 0
  replyDrop : Nat := 0
  transportDrop : Nat := 0
  deferred : List DeferredWrite := []
  replies : List Reply := []
  transport : List ExchangeRequest := []
  reports : List Report := []
  highMark : Bool := false
  eventGap : Nat := 0
  recordGap : Nat := 0
  alerts : Vector AlertRecord 11 := Vector.replicate 11 {}
  lastOwn : Bool := true
  upTx : Option TxFrame := none
  downTx : Option (List Byte) := none
  restartArmed : Bool := false
deriving DecidableEq, Repr

/-! ### The machine -/

/-- The whole part: its ten blocks, the THRESHOLDS table they share, and the queue of commands that wait, first in,
first out. -/
structure State where
  thresholds : Thresholds
  rail : PerSide Rail
  spindles : Vector Spindle 2048
  lu : LengthUnit
  pd : Dispatcher
  dc : DoffUnit
  cc : CreelUnit
  bobbins : Vector Bobbin 2048
  dcu : CeilingUnit
  sau : ShiftUnit
  sbm : BusMaster
  mli : MillLine
  pending : List Instr
deriving DecidableEq, Repr

/-- No command of this part faults: the spec gives every command an effect in every state. The type is empty, so
that no step can answer a fault (log entry 1). -/
inductive Fault where
deriving DecidableEq, Repr

/-- Why a command is refused. Every command of the table has its meaning, so no step raises it. -/
inductive Refusal where
  /-- Raised by `exec` for a row that has no meaning yet, by the row's mnemonic; safe: nothing is claimed of it. -/
  | notModelled (mnemonic : String)
deriving DecidableEq, Repr

/-- The part right after power-on: every block at its power-on column (R17, R20, R43, R61, R88, R110, R130, R146,
R158, R170, R182), with an empty command queue. The station straps read 0 (log entry 6). -/
def State.reset : State where
  thresholds := {}
  rail := ⟨{}, {}⟩
  spindles := Vector.replicate 2048 {}
  lu := {}
  pd := {}
  dc := {}
  cc := {}
  bobbins := Vector.replicate 2048 {}
  dcu := {}
  sau := {}
  sbm := {}
  mli := {}
  pending := []

end Sys2Proof.Machine
end

