-- ==== Sys2Proof/Config.lean ====
section
/-! DEFINITION. The values the spec leaves open, as constants without a body: nothing can evaluate them, and a claim
holds whatever they are. -/

namespace Sys2Proof.Config

open Sys2Proof.Machine

/-- The part's answer to a message that the rules of the unit's role give no answer to (a carriage's message other than
ACCEPT, DONE, POSITION and STATUS; a creel changer's other than DONE and FAILED; the drive's ACTUAL): R76, R127 and R138
state none. Free, as a function of the role and the message code (log entry 21). -/
opaque answerToUnlisted : Role → Nat → Option AnswerCode

/-- How many bytes the data of a read's reply takes: chapter 11 gives no layout for it, and R173 splits a reply into
frames by its length. Free, as a function of the data (log entry 22). -/
opaque replyDataLength : ReplyData → Nat

/-- The tag a reply echoes where the request's payload is too short to hold one (R183 answers RANGE). Free (log
entry 23). -/
opaque absentTag : Nat

/-- The request code a reply names where the request's payload is too short to hold one. Free (log entry 23). -/
opaque absentCode : Nat

end Sys2Proof.Config
end

