-- ==== Sys2Proof/Machine/Ops.lean ====
section
/-! DEFINITION. The named operations every block uses: saturating counts, tables by position, the accessors of the
state's records, raising an alert, posting a report, placing a service bus message, and taking and answering a
management request. -/

namespace Sys2Proof

/-- A side's code in frames: 0 for A, 1 for B (11.2). -/
def Side.code : Side → Nat
  | .a => 0
  | .b => 1

/-- The other side. -/
def Side.other : Side → Side
  | .a => .b
  | .b => .a

/-- The first spindle position of a side. -/
def Side.base : Side → Nat
  | .a => 0
  | .b => 1024

/-- Request codes (11.5). -/
def Request.code : Request → Nat
  | .thresholdsWrite _ => 0x01
  | .unitsWrite _ _ => 0x02
  | .ceilingRowsWrite _ _ _ _ => 0x03
  | .articleActiveWrite _ => 0x04
  | .articleNextWrite _ => 0x04
  | .articleNextEmpty => 0x04
  | .alertEnable _ => 0x05
  | .spindleMapWrite _ _ _ => 0x06
  | .zoneTableWrite _ _ => 0x07
  | .sectionTableWrite _ _ => 0x08
  | .maskTableWrite _ _ _ => 0x09
  | .readThresholds => 0x20
  | .lengthStatus => 0x21
  | .piecingStatus => 0x22
  | .doffStatus => 0x23
  | .ceilingStatus => 0x24
  | .shiftStatus => 0x25
  | .busStatus => 0x26
  | .railStatus _ => 0x27
  | .creelStatus _ _ => 0x28
  | .spindleRecords _ _ => 0x29
  | .lineStatus => 0x2A
  | .shiftClose => 0x40
  | .doffNow => 0x41
  | .doffDefer => 0x42
  | .presetBuild _ => 0x43
  | .spindleMask _ _ _ => 0x44
  | .spindleUnmask _ _ => 0x45
  | .clearRed _ _ => 0x46
  | .channelControl _ _ => 0x47
  | .ceilingOverride _ => 0x48
  | .releaseCeilingRow _ => 0x49
  | .releaseDoff => 0x49
  | .releaseSection _ => 0x49
  | .passRead _ _ _ => 0x4A
  | .passWrite _ _ _ => 0x4B
  | .alertAck _ => 0x4C
  | .sideReset _ => 0x4D
  | .restart => 0x4E
  | .outOfRange c => c
  | .unknown c => c

end Sys2Proof

namespace Sys2Proof.Machine

/-! ### Counts -/

/-- Add, stopping at the maximum (00, Counters: a counter saturates unless it is a modulo number). -/
def satAdd (max a b : Nat) : Nat := min max (a + b)

/-- Maximum of the 16-bit counters. -/
def max16 : Nat := 65535
/-- Maximum of the 32-bit counters and of lengths in millimetres. -/
def max32 : Nat := 4294967295
/-- Maximum of the 48-bit shift figures (8.1). -/
def max48 : Nat := 281474976710655
/-- Maximum of the 64-bit shift figures (8.1). -/
def max64 : Nat := 18446744073709551615

/-! ### Tables by position -/

/-- Read entry `i` of a table; `d` beyond its end. -/
def tget {α : Type} {n : Nat} (d : α) (v : Vector α n) (i : Nat) : α := if h : i < n then v[i] else d

/-- Write entry `i` of a table; nothing happens beyond its end. -/
def tset {α : Type} {n : Nat} (v : Vector α n) (i : Nat) (x : α) : Vector α n := if h : i < n then v.set i x h else v

/-- `f` at each index from `k` on along a list. -/
def mapFrom {α β : Type} (f : Nat → α → β) : Nat → List α → List β
  | _, [] => []
  | k, x :: xs => f k x :: mapFrom f (k + 1) xs

theorem mapFrom_length {α β : Type} (f : Nat → α → β) (k : Nat) (l : List α) :
    (mapFrom f k l).length = l.length := by
  induction l generalizing k with
  | nil => rfl
  | cons x xs ih => simp [mapFrom, ih]

/-- Map a table with the index in hand. -/
def tmap {α β : Type} {n : Nat} (f : Nat → α → β) (v : Vector α n) : Vector β n :=
  ⟨(mapFrom f 0 v.toList).toArray, by simp [mapFrom_length]⟩

/-! ### Sides and spindle positions (00, Spindle positions and heads) -/

/-- The side of a spindle position. -/
def sideOf (p : Nat) : Side := if p < 1024 then .a else .b

def PerSide.get {α : Type} (x : PerSide α) : Side → α
  | .a => x.a
  | .b => x.b

def PerSide.set {α : Type} (x : PerSide α) (sd : Side) (v : α) : PerSide α :=
  match sd with
  | .a => { x with a := v }
  | .b => { x with b := v }

/-- Change one side's value. -/
def PerSide.mod {α : Type} (x : PerSide α) (sd : Side) (f : α → α) : PerSide α := x.set sd (f (x.get sd))

/-! ### Access to the records of the state -/

def State.railOf (s : State) (sd : Side) : Rail := s.rail.get sd
def State.modRail (sd : Side) (f : Rail → Rail) (s : State) : State := { s with rail := s.rail.mod sd f }

/-- A side is configured while its installed count is not 0 (1.1). -/
def State.configured (s : State) (sd : Side) : Bool := (s.railOf sd).installed != 0

/-- The side whose closes advance the delivered length and the doff and dwell counts (R89). -/
def State.countingSide (s : State) : Side := if s.configured .a then .a else .b

/-- The installed positions of a side, ascending. -/
def State.positions (s : State) (sd : Side) : List Nat :=
  (List.range (s.railOf sd).installed).map (sd.base + ·)

/-- A position is installed when it lies within its side's installed count. -/
def State.installed (s : State) (p : Nat) : Bool :=
  p < 2048 && p < (sideOf p).base + (s.railOf (sideOf p)).installed

/-- The installed positions of both sides, ascending. -/
def State.allPositions (s : State) : List Nat := s.positions .a ++ s.positions .b

def State.spindle (s : State) (p : Nat) : Spindle := tget {} s.spindles p
def State.setSpindle (p : Nat) (r : Spindle) (s : State) : State := { s with spindles := tset s.spindles p r }
def State.modSpindle (p : Nat) (f : Spindle → Spindle) (s : State) : State := s.setSpindle p (f (s.spindle p))

def State.bobbin (s : State) (p : Nat) : Bobbin := tget {} s.bobbins p
def State.setBobbin (p : Nat) (r : Bobbin) (s : State) : State := { s with bobbins := tset s.bobbins p r }

def State.lengthSide (s : State) (sd : Side) : LengthSide := s.lu.sides.get sd
def State.modLength (sd : Side) (f : LengthSide → LengthSide) (s : State) : State :=
  { s with lu := { s.lu with sides := s.lu.sides.mod sd f } }

def State.zone (s : State) (c : Nat) : Zone := tget {} s.pd.zones c
def State.setZone (c : Nat) (z : Zone) (s : State) : State := { s with pd := { s.pd with zones := tset s.pd.zones c z } }
def State.channel (s : State) (c : Nat) : Channel := tget {} s.pd.channels c
def State.setChannel (c : Nat) (x : Channel) (s : State) : State :=
  { s with pd := { s.pd with channels := tset s.pd.channels c x } }
def State.modChannel (c : Nat) (f : Channel → Channel) (s : State) : State := s.setChannel c (f (s.channel c))
def State.breakQueue (s : State) (c : Nat) : List Nat := tget [] s.pd.queues c
def State.setQueue (c : Nat) (q : List Nat) (s : State) : State :=
  { s with pd := { s.pd with queues := tset s.pd.queues c q } }

/-- The channel numbers. -/
def channelNumbers : List Nat := [0, 1, 2, 3]

def State.modDoff (f : DoffUnit → DoffUnit) (s : State) : State := { s with dc := f s.dc }

def State.creelSection (s : State) (r : Nat) : Section := tget {} s.cc.sections r
def State.setSection (r : Nat) (x : Section) (s : State) : State :=
  { s with cc := { s.cc with sections := tset s.cc.sections r x } }
def State.modSection (r : Nat) (f : Section → Section) (s : State) : State := s.setSection r (f (s.creelSection r))
def State.modCreel (f : CreelUnit → CreelUnit) (s : State) : State := { s with cc := f s.cc }

/-- The section row numbers. -/
def sectionNumbers : List Nat := List.range 64

def CeilingRows.get (x : CeilingRows) : RowName → CeilingRow
  | .railA => x.railA
  | .railB => x.railB
  | .breakRate => x.breakRate
  | .downLimit => x.downLimit
  | .doff => x.doff
  | .doffFault => x.doffFault
  | .panelStop => x.panelStop
  | .overrideRow => x.overrideRow

def CeilingRows.set (x : CeilingRows) (n : RowName) (r : CeilingRow) : CeilingRows :=
  match n with
  | .railA => { x with railA := r }
  | .railB => { x with railB := r }
  | .breakRate => { x with breakRate := r }
  | .downLimit => { x with downLimit := r }
  | .doff => { x with doff := r }
  | .doffFault => { x with doffFault := r }
  | .panelStop => { x with panelStop := r }
  | .overrideRow => { x with overrideRow := r }

/-- The rows in the order of 7.1. -/
def rowNames : List RowName :=
  [.railA, .railB, .breakRate, .downLimit, .doff, .doffFault, .panelStop, .overrideRow]

def State.ceilingRow (s : State) (n : RowName) : CeilingRow := s.dcu.rows.get n
def State.setRow (n : RowName) (r : CeilingRow) (s : State) : State :=
  { s with dcu := { s.dcu with rows := s.dcu.rows.set n r } }
def State.modDcu (f : CeilingUnit → CeilingUnit) (s : State) : State := { s with dcu := f s.dcu }

def State.shiftSide (s : State) (sd : Side) : ShiftSide := s.sau.sides.get sd
def State.modShift (sd : Side) (f : ShiftSide → ShiftSide) (s : State) : State :=
  { s with sau := { s.sau with sides := s.sau.sides.mod sd f } }
/-- Change a side's current shift record. -/
def State.modRecord (sd : Side) (f : ShiftRecord → ShiftRecord) (s : State) : State :=
  s.modShift sd fun x => { x with current := f x.current }

/-- The unit at a bus address from 1 to 7; an ABSENT record for any other number. -/
def State.unit (s : State) (a : Nat) : BusUnit := if a = 0 then {} else tget {} s.sbm.units (a - 1)
def State.setUnit (a : Nat) (u : BusUnit) (s : State) : State :=
  if a = 0 then s else { s with sbm := { s.sbm with units := tset s.sbm.units (a - 1) u } }
def State.modUnit (a : Nat) (f : BusUnit → BusUnit) (s : State) : State := s.setUnit a (f (s.unit a))
def State.modSbm (f : BusMaster → BusMaster) (s : State) : State := { s with sbm := f s.sbm }

/-- The bus addresses. -/
def busAddresses : List Nat := [1, 2, 3, 4, 5, 6, 7]

/-- The lowest address that holds a unit of a role. -/
def State.addressOf (s : State) (r : Role) : Option Nat := busAddresses.find? fun a => (s.unit a).role == r

/-- The unit of a role is ONLINE. -/
def State.roleOnline (s : State) (r : Role) : Bool :=
  match s.addressOf r with
  | some a => (s.unit a).state == .online
  | none => false

def State.modMli (f : MillLine → MillLine) (s : State) : State := { s with mli := f s.mli }

def MillLine.port (m : MillLine) : Port → PortState
  | .upstream => m.upstream
  | .downstream => m.downstream
def MillLine.setPort (m : MillLine) (p : Port) (x : PortState) : MillLine :=
  match p with
  | .upstream => { m with upstream := x }
  | .downstream => { m with downstream := x }

/-! ### Alerts (10.6) -/

/-- The codes of the alert causes (11.5). -/
def AlertCause.code : AlertCause → Nat
  | .railFault => 1
  | .dofferFault => 2
  | .driveOffline => 3
  | .driveDisobey => 4
  | .carriageOffline => 5
  | .sectionStalled => 6
  | .panelStop => 7
  | .ceilingLocked => 8
  | .unitCause => 9
  | .reportGap => 10
  | .queueRelief => 11

/-- The alert causes, lowest code first. -/
def alertCauses : List AlertCause :=
  [.railFault, .dofferFault, .driveOffline, .driveDisobey, .carriageOffline, .sectionStalled, .panelStop,
   .ceilingLocked, .unitCause, .reportGap, .queueRelief]

def State.alert (s : State) (c : AlertCause) : AlertRecord := tget {} s.mli.alerts (c.code - 1)
def State.setAlert (c : AlertCause) (r : AlertRecord) (s : State) : State :=
  s.modMli fun m => { m with alerts := tset m.alerts (c.code - 1) r }

/-- A new occurrence of a cause (R180). -/
def AlertRecord.occur (detail : Option Nat) (r : AlertRecord) : AlertRecord :=
  { r with pending := true, occurrences := satAdd 255 r.occurrences 1, detail := detail,
           send := r.send || (!r.pending && r.enabled) }

def raiseAlert (c : AlertCause) (detail : Option Nat) (s : State) : State :=
  s.setAlert c ((s.alert c).occur detail)

/-! ### The report queue (R178, R179) -/

/-- The gap counters' advance, with the REPORT_GAP cause it raises (R178). -/
def advanceEventGap (s : State) : State :=
  let raised := if s.mli.eventGap = 0 then raiseAlert .reportGap none s else s
  raised.modMli fun m => { m with eventGap := satAdd max16 m.eventGap 1 }

/-- The record gap's advance; REPORT_GAP is raised also where the counter already stands at its limit (DESIGN CHOICE, log
entry 72). -/
def advanceRecordGap (s : State) : State :=
  (raiseAlert .reportGap none s).modMli fun m => { m with recordGap := satAdd max16 m.recordGap 1 }

/-- Append a report; the high mark is set when the fill reaches 96 (R179). -/
def appendReport (r : Report) (s : State) : State :=
  s.modMli fun m =>
    { m with reports := m.reports ++ [r], highMark := m.highMark || (96 ≤ (m.reports ++ [r]).length) }

/-- Post an EVENT (R178). -/
def postEvent (b : ReportBody) (s : State) : State :=
  if s.mli.reports.length < 96 then
    (appendReport ⟨false, s.mli.eventGap, b⟩ s).modMli fun m => { m with eventGap := 0 }
  else advanceEventGap s

/-- Remove the first report that satisfies `f`. -/
def removeFirst (f : Report → Bool) : List Report → List Report
  | [] => []
  | r :: rs => if f r then rs else r :: removeFirst f rs

/-- Make room for a RECORD in a queue of 128 (R178): the oldest EVENT leaves, or the oldest RECORD. -/
def evictForRecord (s : State) : State :=
  if s.mli.reports.length < 128 then s
  else if s.mli.reports.any (fun r => !r.record) then
    advanceEventGap (s.modMli fun m => { m with reports := removeFirst (fun r => !r.record) m.reports })
  else
    advanceRecordGap (s.modMli fun m => { m with reports := m.reports.drop 1 })

/-- Post a RECORD (R178). It carries the present event_gap and leaves it as it is (log entry 25). -/
def postRecord (b : ReportBody) (s : State) : State :=
  let room := evictForRecord s
  appendReport ⟨true, room.mli.eventGap, b⟩ room

/-! ### Outbound slots (R165) -/

/-- A slot that is empty takes the oldest of the block's waiting messages. -/
def BusUnit.fill (u : BusUnit) : BusUnit :=
  match u.slot, u.waiting with
  | none, m :: ms => { u with slot := some m, carried := false, waiting := ms }
  | _, _ => u

/-- A block places a message for its unit: it enters an empty slot or waits; for an ABSENT unit it is discarded. -/
def BusUnit.place (m : BusMsg) (u : BusUnit) : BusUnit :=
  if u.state = .absent then u else { u with waiting := u.waiting ++ [m] }.fill

def placeMsg (a : Nat) (m : BusMsg) (s : State) : State := s.modUnit a (BusUnit.place m)

/-- Place a message for the unit of a role; nothing where no unit has it. -/
def placeForRole (r : Role) (m : BusMsg) (s : State) : State :=
  match s.addressOf r with
  | some a => placeMsg a m s
  | none => s

/-- Empty the slot; the oldest waiting message takes it. -/
def BusUnit.retire (u : BusUnit) : BusUnit := { u with slot := none, carried := false }.fill

/-- Drop every message of the unit that satisfies `f`, waiting or in the slot. -/
def BusUnit.dropMsgs (f : BusMsg → Bool) (u : BusUnit) : BusUnit :=
  let kept := { u with waiting := u.waiting.filter fun m => !f m }
  match kept.slot with
  | some m => if f m then kept.retire else kept
  | none => kept

def dropMsgs (a : Nat) (f : BusMsg → Bool) (s : State) : State := s.modUnit a (BusUnit.dropMsgs f)

/-! ### Management requests (10.4) -/

/-- The request queue places held (R174): one for each accepted write that still holds its place, and one for a
pass-through that has not ended. Every other request frees its place in the event that takes it. -/
def State.placesHeld (s : State) : Nat :=
  (s.mli.deferred.filter (·.holdsPlace)).length + (if s.sbm.pass.isSome then 1 else 0)

/-- Put a reply in the reply list, which holds 8 (R173). -/
def addReply (r : Reply) (s : State) : State :=
  if s.mli.replies.length < 8 then s.modMli fun m => { m with replies := m.replies ++ [r] }
  else s.modMli fun m => { m with replyDrop := satAdd max16 m.replyDrop 1 }

/-- The reply to request `code` of station `src` with tag `tag`. -/
def mkReply (src tag code : Nat) (c : ReplyCode) (d : ReplyData) : Reply := ⟨src, tag, c, code, d, 0, false⟩

def reply (src tag code : Nat) (c : ReplyCode) (d : ReplyData) (s : State) : State :=
  addReply (mkReply src tag code c d) s

/-- A request is taken where a place is free and no restart is armed (R174, R177); `body` then executes it. -/
def State.takesRequest (s : State) : Bool := s.placesHeld < 4 && !s.mli.restartArmed

/-- Take a management request (R174): OVERRUN where all four places are held, BUSY while a restart is armed, and
otherwise its execution. -/
def takeRequest (src tag code : Nat) (body : State → State) (s : State) : State :=
  if 4 ≤ s.placesHeld then reply src tag code .overrun .none s
  else if s.mli.restartArmed then reply src tag code .busy .none s
  else body s

end Sys2Proof.Machine
end

