-- ==== Sys2Proof/Machine/Operands.lean ====
section
/-! DEFINITION. Reading operands: the codes of chapter 11, the ranges and clamps of the tables, the checks of frames
(R183, R184) and the layouts of the frames and payloads the part receives; and the frames it sends, as far as chapter 11
gives their layout. -/

namespace Sys2Proof.Machine

/-! ### Codes -/

def sideOfCode : Nat → Option Side
  | 0 => some .a
  | 1 => some .b
  | _ => none

/-- A flag byte: 0 clear or no, 1 set or yes; another value is no flag (log entry 24). -/
def flagOfCode : Nat → Option Bool
  | 0 => some false
  | 1 => some true
  | _ => none

def boolCode (b : Bool) : Nat := if b then 1 else 0

/-- Modes carry their ranks (11.5). -/
def modeOfCode : Nat → Option CeilingMode
  | 0 => some .halt
  | 1 => some .stop
  | 2 => some .crawl
  | 3 => some .trim
  | 4 => some .full
  | _ => none

/-- A mode's rank, HALT 0 to FULL 4 (7.1). -/
def modeRank : CeilingMode → Nat
  | .halt => 0
  | .stop => 1
  | .crawl => 2
  | .trim => 3
  | .full => 4

def outcomeOfCode : Nat → Option CarriageOutcome
  | 0 => some .pieced
  | 1 => some .failed
  | 2 => some .noRoving
  | 3 => some .blocked
  | 4 => some .aborted
  | _ => none

def directionOfCode : Nat → Option Direction
  | 0 => some .up
  | 1 => some .down
  | _ => none

/-- Roles, in the order of the table of 9.1 (log entry 24). -/
def roleOfCode : Nat → Option Role
  | 0 => some .none
  | 1 => some .carriage
  | 2 => some .doffer
  | 3 => some .drive
  | 4 => some .creelChanger
  | _ => none

/-- Ceiling rows 0 to 7, in the order of the row table of 7.1 (11.5). -/
def rowOfCode : Nat → Option RowName
  | 0 => some .railA
  | 1 => some .railB
  | 2 => some .breakRate
  | 3 => some .downLimit
  | 4 => some .doff
  | 5 => some .doffFault
  | 6 => some .panelStop
  | 7 => some .overrideRow
  | _ => none

/-- The kinds SPINDLE_MASK accepts (R39): OPERATOR, SENSOR_FAULT, REPAIR, numbered as 2.1 lists the mask values. -/
def maskKindOfCode : Nat → Option MaskKind
  | 1 => some .operator
  | 2 => some .sensorFault
  | 3 => some .repair
  | _ => none

/-- The overrides of a MASK_TABLE write (R42), numbered as 2.1 lists them. -/
def overrideOfCode : Nat → Option Override
  | 0 => some .none
  | 1 => some .forceDown
  | 2 => some .forceRun
  | _ => none

def alertOfCode : Nat → Option AlertCause
  | 1 => some .railFault
  | 2 => some .dofferFault
  | 3 => some .driveOffline
  | 4 => some .driveDisobey
  | 5 => some .carriageOffline
  | 6 => some .sectionStalled
  | 7 => some .panelStop
  | 8 => some .ceilingLocked
  | 9 => some .unitCause
  | 10 => some .reportGap
  | 11 => some .queueRelief
  | _ => none

/-! ### Ranges and clamps -/

/-- The nearest value in range. -/
def clamp (lo hi v : Nat) : Nat := max lo (min hi v)

/-- sweep_ms (R2): 500 to 4,000 in steps of 250; a value midway between two steps becomes the larger. -/
def clampSweepMs (v : Nat) : Nat :=
  if v < 500 then 500 else if 4000 < v then 4000 else (v + 125) / 250 * 250

/-- Every threshold and timer field of a THRESHOLDS write clamped into its range (R2, R20, R136 and the parameter
tables of 4.1, 5.1, 6.2, 8.4). thr_break is clamped against 0 only; transport_station is structural. -/
def ThresholdFields.clamped (w : ThresholdFields) : ThresholdFields where
  sweepMs := w.sweepMs.map clampSweepMs
  thrRun := w.thrRun.map (clamp 1 255)
  thrBreak := w.thrBreak
  pMin := w.pMin.map (clamp 1 255)
  downConfirm := w.downConfirm.map (clamp 1 15)
  runConfirm := w.runConfirm.map (clamp 1 15)
  verifySweeps := w.verifySweeps.map (clamp 1 15)
  mppQ := w.mppQ.map (clamp 1 65535)
  maxWait := w.maxWait.map (clamp 60 3600)
  jobLimit := w.jobLimit.map (clamp 10 250)
  attemptsMax := w.attemptsMax.map (clamp 1 7)
  downLimit := w.downLimit.map (clamp 0 1024)
  stopLimit := w.stopLimit.map (clamp 20 300)
  doffLimit := w.doffLimit.map (clamp 60 900)
  settleSweeps := w.settleSweeps.map (clamp 1 15)
  transportStation := w.transportStation
  transportLimit := w.transportLimit.map (clamp 60 3600)
  trimOn := w.trimOn.map (clamp 1 9999)
  trimOff := w.trimOff.map (clamp 1 9999)
  blockSweeps := w.blockSweeps.map (clamp 60 3600)

/-- The table as a write leaves it. -/
def Thresholds.updated (t : Thresholds) (w : ThresholdFields) : Thresholds where
  sweepMs := w.sweepMs.getD t.sweepMs
  thrRun := w.thrRun.getD t.thrRun
  thrBreak := w.thrBreak.getD t.thrBreak
  pMin := w.pMin.getD t.pMin
  downConfirm := w.downConfirm.getD t.downConfirm
  runConfirm := w.runConfirm.getD t.runConfirm
  verifySweeps := w.verifySweeps.getD t.verifySweeps
  mppQ := w.mppQ.getD t.mppQ
  maxWait := w.maxWait.getD t.maxWait
  jobLimit := w.jobLimit.getD t.jobLimit
  attemptsMax := w.attemptsMax.getD t.attemptsMax
  downLimit := w.downLimit.getD t.downLimit
  stopLimit := w.stopLimit.getD t.stopLimit
  doffLimit := w.doffLimit.getD t.doffLimit
  settleSweeps := w.settleSweeps.getD t.settleSweeps
  transportStation := w.transportStation.getD t.transportStation
  transportLimit := w.transportLimit.getD t.transportLimit
  trimOn := w.trimOn.getD t.trimOn
  trimOff := w.trimOff.getD t.trimOff
  blockSweeps := w.blockSweeps.getD t.blockSweeps

/-- The structural ranges of an article record (5.2). -/
def ArticleFields.inRange (w : ArticleFields) : Bool :=
  1 ≤ w.number && w.number ≤ 65535 && 100 ≤ w.texX100 && w.texX100 ≤ 20000 && 100 ≤ w.tpm && w.tpm ≤ 4000
    && 1000 ≤ w.draftX100 && w.draftX100 ≤ 9999 && 500 ≤ w.fullCopM && w.fullCopM ≤ 60000
    && 100 ≤ w.bobbinM && w.bobbinM ≤ 6000

/-- The article record of a write, its threshold fields clamped (5.2, R91). -/
def ArticleFields.clamped (w : ArticleFields) : Article where
  number := w.number
  texX100 := w.texX100
  tpm := w.tpm
  draftX100 := w.draftX100
  fullCopM := w.fullCopM
  bobbinM := w.bobbinM
  prewarnM := clamp 0 2000 w.prewarnM
  rampM := clamp 0 2000 w.rampM
  deferM := clamp 0 2000 w.deferM
  shortCopQ8 := clamp 0 255 w.shortCopQ8

/-- Some threshold field of the article record had to be clamped. -/
def ArticleFields.wasClamped (w : ArticleFields) : Bool :=
  2000 < w.prewarnM || 2000 < w.rampM || 2000 < w.deferM || 255 < w.shortCopQ8

/-! ### Checks (R183, R184) -/

/-- One bit of the CRC-16 of generator x^16 + x^12 + x^5 + 1. -/
def crcBit (r : BitVec 16) : BitVec 16 := if r.msb then (r <<< 1) ^^^ 0x1021#16 else r <<< 1

def crcBits : Nat → BitVec 16 → BitVec 16
  | 0, r => r
  | n + 1, r => crcBits n (crcBit r)

/-- One byte of the CRC-16, most significant bit first. -/
def crcByte (r : BitVec 16) (b : Byte) : BitVec 16 := crcBits 8 (r ^^^ (b.zeroExtend 16 <<< 8))

/-- The CRC-16 of a run of bytes: the register starts at FFFFh (R183). -/
def crc16 (bs : List Byte) : BitVec 16 := bs.foldl crcByte 0xFFFF#16

/-- A 16-bit number as two bytes, high byte first. -/
def bytes16 (n : Nat) : List Byte := [BitVec.ofNat 8 (n / 256), BitVec.ofNat 8 n]

/-- The CRC-16 as it is sent. -/
def crcBytes (bs : List Byte) : List Byte := bytes16 (crc16 bs).toNat

/-- The number a run of bytes spells, most significant byte first. -/
def beNat (bs : List Byte) : Nat := bs.foldl (fun n b => n * 256 + b.toNat) 0

/-- The check byte of a head reply block: the sum of its 34 bytes modulo 256 (R184). -/
def checkSum (bs : List Byte) : Byte := bs.foldl (· + ·) 0#8

/-! ### Frames received -/

/-- A mill line frame (11.1). -/
structure MillFrame where
  dest : Byte
  src : Byte
  type : Byte
  payload : List Byte
deriving DecidableEq, Repr

/-- Read a mill line frame; `none` where it fails its check (R183). A first byte other than the start delimiter of 11.1 fails
it too (DESIGN CHOICE, log entry 80). -/
def parseMillFrame : List Byte → Option MillFrame
  | d :: dst :: src :: ty :: len :: rest =>
    let payload := rest.take len.toNat
    if d = 0x7E#8 ∧ rest.length = len.toNat + 2 ∧
        rest.drop len.toNat = crcBytes (dst :: src :: ty :: len :: payload) then
      some ⟨dst, src, ty, payload⟩
    else none
  | _ => none

/-- The mill line frame as it is sent (11.1). -/
def encodeMillFrame (f : MillFrame) : List Byte :=
  let body := f.dest :: f.src :: f.type :: BitVec.ofNat 8 f.payload.length :: f.payload
  0x7E#8 :: body ++ crcBytes body

/-- A head reply block read (11.2): head index, echoed sweep number, sixteen spindle fields. -/
structure HeadBlock where
  head : Nat
  echo : Nat
  fields : List SpindleField
deriving DecidableEq, Repr

/-- A spindle field: the top bit is the sensor-fault flag, the low twelve bits the count (11.2). -/
def spindleField (hi lo : Byte) : SpindleField :=
  ⟨(hi.toNat % 16) * 256 + lo.toNat, hi.msb⟩

def spindleFields : List Byte → List SpindleField
  | hi :: lo :: rest => spindleField hi lo :: spindleFields rest
  | _ => []

/-- Read a head reply block; `none` where it has failed its check (R184). -/
def parseHeadBlock (bs : List Byte) : Option HeadBlock :=
  if bs.length = 35 ∧ checkSum (bs.take 34) = bs.getD 34 0#8 then
    some ⟨(bs.getD 0 0#8).toNat, (bs.getD 1 0#8).toNat, spindleFields ((bs.take 34).drop 2)⟩
  else none

/-- The message of a unit's answer (11.3); `other` where the type or the form of the arguments is not listed. -/
def parseUnitMsg (ty : Nat) (args : List Byte) : Option UnitMsg :=
  match ty, args with
  | 0x00, _ => none
  | 0x41, [q] => some (match flagOfCode q.toNat with | some b => .accept b | none => .other ty)
  | 0x42, [q, o] =>
    some (match flagOfCode q.toNat, outcomeOfCode o.toNat with | some b, some x => .done b x | _, _ => .other ty)
  | 0x43, [h, l, d] =>
    some (match directionOfCode d.toNat with | some x => .position (beNat [h, l]) x | none => .other ty)
  | 0x44, [r] => some (match flagOfCode r.toNat with | some b => .status b | none => .other ty)
  | 0x45, [] => some .ready
  | 0x46, [] => some .doffDone
  | 0x47, [] => some .fault
  | 0x48, [m, a, b, c] =>
    some (match modeOfCode m.toNat, flagOfCode a.toNat, flagOfCode b.toNat, flagOfCode c.toNat with
      | some x, some p, some q, some r => .actual x p q r
      | _, _, _, _ => .other ty)
  | 0x49, [h, l] => some (.changerDone (beNat [h, l]))
  | 0x4A, [h, l] => some (.changerFailed (beNat [h, l]))
  | 0x4B, st :: data => some (.passReply st data)
  | _, _ => some (.other ty)

/-- Read a unit's answer: address, cause flag and message; `none` where it fails its check (R163, R183), as it does with a
first byte other than the start delimiter (DESIGN CHOICE, log entry 80). -/
def parseAnswer : List Byte → Option (Nat × Bool × Option UnitMsg)
  | d :: addr :: flags :: code :: ty :: len :: rest =>
    let args := rest.take len.toNat
    if d = 0x7E#8 ∧ rest.length = len.toNat + 2 ∧
        rest.drop len.toNat = crcBytes (addr :: flags :: code :: ty :: len :: args) then
      some (addr.toNat, flags.getLsbD 0, parseUnitMsg ty.toNat args)
    else none
  | _ => none

/-! ### Request payloads (11.5) -/

/-- Split numbers of the given byte widths off a payload; `none` where it is too short. -/
def takeNumbers : List Nat → List Byte → Option (List Nat × List Byte)
  | [], bs => some ([], bs)
  | w :: ws, bs =>
    if bs.length < w then none
    else (takeNumbers ws (bs.drop w)).map fun (ns, rest) => (beNat (bs.take w) :: ns, rest)

/-- The carried fields of a THRESHOLDS write, two bytes each, in the order of its presence mask. -/
def takeMasked : List Bool → List Byte → Option (List (Option Nat))
  | [], _ => some []
  | false :: ms, bs => (takeMasked ms bs).map (none :: ·)
  | true :: ms, bs =>
    if bs.length < 2 then none else (takeMasked ms (bs.drop 2)).map (some (beNat (bs.take 2)) :: ·)

/-- The bits of a byte, most significant first. -/
def bitsOf (b : Byte) : List Bool := [7, 6, 5, 4, 3, 2, 1, 0].map fun i => b.getLsbD i

def thresholdFields : List (Option Nat) → Option ThresholdFields
  | [a, b, c, d, e, f, g, h, i, j, k, l, m, n, o, p, q, r, s, t] =>
    some ⟨a, b, c, d, e, f, g, h, i, j, k, l, m, n, o, p, q, r, s, t⟩
  | _ => none

/-- A THRESHOLDS payload: three mask bytes whose last four bits are 0, then the carried fields. -/
def parseThresholds : List Byte → Option ThresholdFields
  | x :: y :: z :: rest =>
    if z.toNat % 16 = 0 then
      (takeMasked ((bitsOf x ++ bitsOf y ++ bitsOf z).take 20) rest).bind thresholdFields
    else none
  | _ => none

def parseArticle (bs : List Byte) : Option ArticleFields :=
  match takeNumbers [2, 2, 2, 2, 4, 4, 4, 4, 4, 2] bs with
  | some ([a, b, c, d, e, f, g, h, i, j], _) => some ⟨a, b, c, d, e, f, g, h, i, j⟩
  | _ => none

/-- Pairs of bytes: a cause and its enable flag, to the payload's end (R180). DESIGN CHOICE (log entry 86): chapter 11 gives
no layout for the causes; no count byte goes before them, and an odd byte at the end is RANGE. -/
def bytePairs : List Byte → Option (List (Nat × Nat))
  | [] => some []
  | [_] => none
  | a :: b :: rest => (bytePairs rest).map ((a.toNat, b.toNat) :: ·)

/-- The parts byte of a CHANNEL_CONTROL payload, bit 0 first in the order of the parts of R85 (log entry 24). -/
def channelParts (b : Byte) : ChannelParts :=
  ⟨b.getLsbD 0, b.getLsbD 1, b.getLsbD 2, b.getLsbD 3, b.getLsbD 4, b.getLsbD 5, b.getLsbD 6, b.getLsbD 7⟩

/-- The arguments of a request by its code (11.5; the widths and orders the chapter leaves open are log entry 24, the causes of the two
alert requests log entry 86).
Bytes beyond what the code needs are ignored. -/
def parseRequest (code : Nat) (bs : List Byte) : Request :=
  match code with
  | 0x01 => (parseThresholds bs).elim (.outOfRange code) .thresholdsWrite
  | 0x02 => match takeNumbers [1, 1] bs with
    | some ([a, r], _) => .unitsWrite a r
    | _ => .outOfRange code
  | 0x03 => match takeNumbers [1, 1, 1, 2] bs with
    | some ([r, e, l, d], _) => .ceilingRowsWrite r e l d
    | _ => .outOfRange code
  | 0x04 => match takeNumbers [1, 1] bs with
    | some ([0, 0], rest) => (parseArticle rest).elim (.outOfRange code) .articleActiveWrite
    | some ([1, 0], rest) => (parseArticle rest).elim (.outOfRange code) .articleNextWrite
    | some ([1, 1], _) => .articleNextEmpty
    | _ => .outOfRange code
  | 0x05 => match bytePairs bs with
    | some (p :: ps) => .alertEnable (p :: ps)
    | _ => .outOfRange code
  | 0x06 => match takeNumbers [1, 2, 1] bs with
    | some ([sd, n, r], _) => .spindleMapWrite sd n r
    | _ => .outOfRange code
  | 0x07 => match takeNumbers [1, 1, 1, 1, 2, 2] bs with
    | some ([r, e, a, sd, f, l], _) => .zoneTableWrite r ⟨e, a, sd, f, l⟩
    | _ => .outOfRange code
  | 0x08 => match takeNumbers [1, 1, 1, 2, 2, 2, 4, 4] bs with
    | some ([r, e, sd, f, l, t, rs, ex], _) => .sectionTableWrite r ⟨e, sd, f, l, t, rs, ex⟩
    | _ => .outOfRange code
  | 0x09 => match takeNumbers [2, 2, 1] bs with
    | some ([f, l, o], _) => .maskTableWrite f l o
    | _ => .outOfRange code
  | 0x20 => .readThresholds
  | 0x21 => .lengthStatus
  | 0x22 => .piecingStatus
  | 0x23 => .doffStatus
  | 0x24 => .ceilingStatus
  | 0x25 => .shiftStatus
  | 0x26 => .busStatus
  | 0x27 => match takeNumbers [1] bs with
    | some ([sd], _) => .railStatus sd
    | _ => .outOfRange code
  | 0x28 => match takeNumbers [2, 2] bs with
    | some ([f, l], _) => .creelStatus f l
    | _ => .outOfRange code
  | 0x29 => match takeNumbers [2, 2] bs with
    | some ([f, l], _) => .spindleRecords f l
    | _ => .outOfRange code
  | 0x2A => .lineStatus
  | 0x40 => .shiftClose
  | 0x41 => .doffNow
  | 0x42 => .doffDefer
  | 0x43 => match takeNumbers [4] bs with
    | some ([n], _) => .presetBuild n
    | _ => .outOfRange code
  | 0x44 => match takeNumbers [2, 2, 1] bs with
    | some ([f, l, k], _) => .spindleMask f l k
    | _ => .outOfRange code
  | 0x45 => match takeNumbers [2, 2] bs with
    | some ([f, l], _) => .spindleUnmask f l
    | _ => .outOfRange code
  | 0x46 => match takeNumbers [2, 2] bs with
    | some ([f, l], _) => .clearRed f l
    | _ => .outOfRange code
  | 0x47 => match bs with
    | c :: p :: _ => .channelControl c.toNat (channelParts p)
    | _ => .outOfRange code
  | 0x48 => match bs with
    | m :: _ => .ceilingOverride (if m = 5#8 then none else some m.toNat)
    | _ => .outOfRange code
  | 0x49 => match bs with
    | k :: rest =>
      if k = 1#8 then .releaseDoff
      else match rest with
        | r :: _ => if k = 0#8 then .releaseCeilingRow r.toNat
                    else if k = 2#8 then .releaseSection r.toNat else .outOfRange code
        | [] => .outOfRange code
    | _ => .outOfRange code
  | 0x4A => match takeNumbers [1, 1, 1] bs with
    | some ([u, r, n], _) => .passRead u r n
    | _ => .outOfRange code
  | 0x4B => match bs with
    | u :: r :: data => .passWrite u.toNat r.toNat data
    | _ => .outOfRange code
  | 0x4C => match bs with
    | c :: cs => .alertAck ((c :: cs).map BitVec.toNat)
    | [] => .outOfRange code
  | 0x4D => match takeNumbers [1] bs with
    | some ([sd], _) => .sideReset sd
    | _ => .outOfRange code
  | 0x4E => .restart
  | c => .unknown c

/-! ### Frames sent whose layout chapter 11 gives whole -/

/-- Eight flags as a byte, the first in the most significant bit. -/
def packByte (bs : List Bool) : Byte := BitVec.ofNat 8 ((bs.take 8).foldl (fun n b => 2 * n + boolCode b) 0)

/-- Flags packed eight to a byte; `n` bytes. -/
def packBits : Nat → List Bool → List Byte
  | 0, _ => []
  | n + 1, bs => packByte bs :: packBits n (bs.drop 8)

/-- The sweep-start frame as it goes down the rail (11.2). -/
def SweepStartFrame.bytes (f : SweepStartFrame) : List Byte :=
  let body := BitVec.ofNat 8 f.side.code :: f.sweepNumber.zeroExtend 8 :: BitVec.ofNat 8 (boolCode f.railFault) ::
    packBits (f.map.length / 8) f.map
  0x7E#8 :: body ++ crcBytes body

/-- Type and arguments of a slot message (11.3, 11.5). -/
def BusMsg.bytes : BusMsg → Nat × List Byte
  | .job _ sp q => (0x01, bytes16 sp ++ [BitVec.ofNat 8 (boolCode q)])
  | .cancel _ q => (0x02, bytes16 0 ++ [BitVec.ofNat 8 (boolCode q)])
  | .park _ => (0x03, [])
  | .doffPrepare => (0x04, [])
  | .doffStart => (0x05, [])
  | .singleChange sp => (0x06, bytes16 sp)
  | .passRead r n => (0x07, [BitVec.ofNat 8 r, BitVec.ofNat 8 n])
  | .passWrite r d => (0x08, BitVec.ofNat 8 r :: d)

/-- Answer codes (11.5). -/
def AnswerCode.code : AnswerCode → Nat
  | .ack => 0x20
  | .late => 0x21
  | .refused => 0x22

/-- The poll or probe as it goes out on the service bus (11.3). -/
def Exchange.bytes (x : Exchange) : List Byte :=
  let flags := boolCode x.probe + 2 * boolCode x.ceiling.isSome
  let ans := x.answer.elim 0 AnswerCode.code
  let part : List Byte := match x.ceiling with
    | some c => [BitVec.ofNat 8 (modeRank c.mode), BitVec.ofNat 8 (boolCode c.positioning),
        BitVec.ofNat 8 (boolCode c.start)]
    | none => []
  let (ty, args) := match x.msg with | some m => m.bytes | none => (0, [])
  let body := BitVec.ofNat 8 x.addr :: BitVec.ofNat 8 flags :: BitVec.ofNat 8 ans ::
    part ++ (BitVec.ofNat 8 ty :: BitVec.ofNat 8 args.length :: args)
  0x7E#8 :: body ++ crcBytes body

/-- The EXCHANGE_REQUEST frame (11.1). -/
def ExchangeRequest.frame (f : ExchangeRequest) : MillFrame :=
  ⟨BitVec.ofNat 8 f.dest, BitVec.ofNat 8 f.station, 0x10#8,
    [BitVec.ofNat 8 f.station, BitVec.ofNat 8 f.row, BitVec.ofNat 8 f.side.code, BitVec.ofNat 8 (boolCode f.urgent),
     BitVec.ofNat 8 f.bobbins]⟩

/-! ### Codes and frames sent whose body chapter 11 leaves open (11.1, 11.5) -/

def ReplyCode.code : ReplyCode → Nat
  | .ok => 0x00
  | .okClamped => 0x01
  | .busy => 0x02
  | .range => 0x03
  | .conflict => 0x04
  | .protected_ => 0x05
  | .unknownTable => 0x06
  | .unitOffline => 0x07
  | .timeout => 0x08
  | .overrun => 0x09

/-- Report codes: fifteen EVENTs and two RECORDs. -/
def ReportBody.code : ReportBody → Nat
  | .headState _ _ _ _ => 0x01
  | .railState _ _ _ _ _ => 0x02
  | .spindleRed _ _ _ _ => 0x03
  | .channelState _ _ _ => 0x04
  | .jobEnd _ _ _ _ _ => 0x05
  | .doffState _ _ _ _ _ _ _ => 0x06
  | .doffSoon _ _ _ => 0x07
  | .sectionState _ _ _ _ _ _ _ _ _ => 0x08
  | .singleChange _ _ => 0x09
  | .ceilingRow _ _ _ _ => 0x0A
  | .ceilingChange _ _ _ _ => 0x0B
  | .driveEvent _ => 0x0C
  | .unitState _ _ _ _ _ => 0x0D
  | .unitCause _ _ _ => 0x0E
  | .linkState _ _ => 0x0F
  | .cop _ => 0x20
  | .shift _ _ _ => 0x21

/-- An optional field of one byte: its presence byte, and the field where it is present. -/
def optionalByte : Option Nat → List Byte
  | some n => [1#8, BitVec.ofNat 8 n]
  | none => [0#8]

/-- The ALERT frame: addressed to station 0, with the cause, its occurrences and its detail (11.1, R172, R180). -/
def alertFrame (station : BitVec 6) (c : AlertCause) (occurrences : Nat) (detail : Option Nat) : MillFrame :=
  ⟨0#8, station.zeroExtend 8, 0x04#8,
    BitVec.ofNat 8 c.code :: BitVec.ofNat 8 occurrences :: optionalByte detail⟩

/-- The frame of a report whose body is `body`: addressed to station 0, with its kind, code and event_gap (11.1). -/
def reportFrame (station : BitVec 6) (r : Report) (body : List Byte) : MillFrame :=
  ⟨0#8, station.zeroExtend 8, 0x03#8,
    BitVec.ofNat 8 (boolCode r.record) :: BitVec.ofNat 8 r.body.code :: bytes16 r.eventGap ++ body⟩

/-- One frame of a reply, whose part of the data is `part`: tag, reply code, request code, fragment index and last flag
(11.1). -/
def replyFrame (station : BitVec 6) (r : Reply) (fragment : Nat) (last : Bool) (part : List Byte) : MillFrame :=
  ⟨BitVec.ofNat 8 r.dest, station.zeroExtend 8, 0x02#8,
    [BitVec.ofNat 8 r.tag, BitVec.ofNat 8 r.code.code, BitVec.ofNat 8 r.request, BitVec.ofNat 8 fragment,
      BitVec.ofNat 8 (boolCode last)] ++ part⟩

end Sys2Proof.Machine
end

