-- ==== Sys2Proof/Machine/Flags.lean ====
section
/-! DEFINITION. The facts the blocks compute from the state: rail counts, the effective ceiling and the output lines,
the readiness facts of the doff, what covers a spindle position, the conditions of the level alert causes. -/

namespace Sys2Proof.Machine

/-! ### Rail -/

/-- A side's lost count: the number of its heads in LOST (R10). -/
def Rail.lostCount (r : Rail) : Nat := (r.heads.filter fun h => h.state == .lost).length

/-- The fault limit of a side: N/64, truncated (1.7). -/
def Rail.faultLimit (r : Rail) : Nat := r.installed / 64

/-- Some head was given a good block in the window and not spoiled (1.6). -/
def HeadWindow.isGood : HeadWindow → Bool
  | .answered _ => true
  | _ => false

/-! ### Doff -/

/-- The full target in millimetres (R89). DESIGN CHOICE (log entry 85): with no article active the article's part is 0, and
so are the full target and the prewarn point that DOFF_STATUS returns (no extension stands then). -/
def DoffUnit.fullTarget (d : DoffUnit) : Nat :=
  (match d.active with | some a => a.fullCopM * 1000 | none => 0) + d.deferExt

/-- The prewarn point in millimetres (R89); with no article active, log entry 85. -/
def DoffUnit.prewarnPoint (d : DoffUnit) : Nat :=
  d.fullTarget - (match d.active with | some a => a.prewarnM * 1000 | none => 0)

/-- The number of the active article, 0 when none is active (8.5). -/
def DoffUnit.articleNumber (d : DoffUnit) : Nat := match d.active with | some a => a.number | none => 0

/-- The spindles are held paused by the doff (R14 step 4, R40, R43). -/
def State.spindlesPaused (s : State) : Bool :=
  s.dc.state == .doffing || (s.dc.state == .settle && s.dc.settlePaused == some true)

/-- The drive is stopped at the doff position without a fault (R96, R138). -/
def State.driveAtDoffFact (s : State) : Bool :=
  s.roleOnline .drive &&
    match s.dcu.lastActual with
    | some a => a.stopped && a.atDoff && !a.fault
    | none => false

/-- A channel holds, or is cancelling, a job. -/
def Channel.inJob (c : Channel) : Bool := c.state == .offered || c.state == .busy || c.state == .cancelling

/-- Carriages clear: no channel is OFFERED, BUSY or CANCELLING (R83). -/
def State.carriagesClearFact (s : State) : Bool := channelNumbers.all fun c => !(s.channel c).inJob

/-! ### What covers a position -/

/-- The zone row covers the position. -/
def Zone.covers (z : Zone) (p : Nat) : Bool := z.enabled && z.side == sideOf p && z.first ≤ p && p ≤ z.last

/-- The enabled zone that covers a position. -/
def State.zoneOf (s : State) (p : Nat) : Option Nat := channelNumbers.find? fun c => (s.zone c).covers p

def SectionConfig.covers (c : SectionConfig) (p : Nat) : Bool :=
  c.enabled && c.side == sideOf p && c.first ≤ p && p ≤ c.last

/-- The enabled creel section that covers a position. -/
def State.sectionOf (s : State) (p : Nat) : Option Nat :=
  sectionNumbers.find? fun r => (s.creelSection r).config.covers p

/-- The bobbin of a position is exhausted (R28 step 3). -/
def State.exhausted (s : State) (p : Nat) : Bool :=
  match (s.bobbin p).state with
  | .none => false
  | .emptyEst => true
  | .out => true
  | .loaded =>
    let margin := match s.sectionOf p with
      | some r => (s.creelSection r).config.exhaustM * 1000
      | none => 0
    (s.bobbin p).remaining ≤ margin

/-- The channel whose job spindle a position is. -/
def State.channelOfJob (s : State) (p : Nat) : Option Nat :=
  channelNumbers.find? fun c =>
    ((s.channel c).state == .offered || (s.channel c).state == .busy) && (s.channel c).job == some p

/-- The roving-stop flag of a position (R5). -/
def State.rovingStopFlag (s : State) (p : Nat) : Bool :=
  (s.railOf (sideOf p)).rovingStop &&
    match (s.spindle p).state with
    | .down | .red | .rovingOut | .masked => true
    | .piecing =>
      match s.channelOfJob p with
      | some c => (s.channel c).state == .offered
      | none => false
    | _ => false

/-! ### Creel -/

/-- The transport request queue in its order (R119): urgent entries first, each class in order of appending. -/
def CreelUnit.transportQueue (c : CreelUnit) : List QueueEntry :=
  c.queue.filter (·.urgent) ++ c.queue.filter (fun e => !e.urgent)

/-- How many sections are REQUESTED (R120). -/
def State.requestedCount (s : State) : Nat :=
  (sectionNumbers.filter fun r => (s.creelSection r).state == .requested).length

/-- The ROVING_LAMP fact (R128). -/
def State.rovingLampFact (s : State) : Bool :=
  (sectionNumbers.any fun r => (s.creelSection r).config.enabled && (s.creelSection r).state != .supplied) ||
    s.allPositions.any fun p => (s.spindle p).state == .rovingOut

/-! ### Ceiling and lines -/

/-- The lower of two modes. -/
def minMode (x y : CeilingMode) : CeilingMode := if modeRank x ≤ modeRank y then x else y

/-- The mode a row asks for: its mode while it is active. -/
def CeilingRow.asks (r : CeilingRow) : Option CeilingMode := if r.active then r.mode else none

/-- The rows active now, in the order of 7.1. -/
def State.activeRows (s : State) : List RowName := rowNames.filter fun n => (s.ceilingRow n).active

/-- The lowest mode any active row asks for, FULL when none does (R134). -/
def State.effectiveCeiling (s : State) : CeilingMode :=
  (rowNames.filterMap fun n => (s.ceilingRow n).asks).foldl minMode .full

/-- The doff positioning flag of the effective ceiling (R134). -/
def State.effectivePositioning (s : State) : Bool :=
  let d := s.ceilingRow .doff
  s.effectiveCeiling == .stop && d.asks == some .stop && d.positioning &&
    rowNames.all fun n => n == .doff ||
      !((s.ceilingRow n).asks == some .stop || (s.ceilingRow n).asks == some .halt)

/-- The run permit condition (R142). -/
def State.runPermitFact (s : State) : Bool := s.dcu.ceiling != .halt && s.dcu.confirmed && !s.dcu.graceExpired

/-- Causes of class FAULT (R143). -/
def AlertCause.isFault : AlertCause → Bool
  | .railFault | .dofferFault | .driveOffline | .driveDisobey | .carriageOffline | .sectionStalled => true
  | _ => false

/-- The FAULT_LAMP fact (R143, R180). -/
def State.faultLampFact (s : State) : Bool := alertCauses.any fun c => c.isFault && (s.alert c).pending

/-- The number of a down-limit count (R67, R78). -/
def DownLoad.count (d : DownLoad) : Nat := d.falsePieces.length + d.unqueued.length + d.reds.length

/-- A RED spindle stands on the side (R67). -/
def DownLoad.redStands (d : DownLoad) : Bool := !d.reds.isEmpty

/-- A DOWN spindle of the side lies in no enabled zone (R67). -/
def DownLoad.downOutsideZones (d : DownLoad) : Bool := !d.outsideZones.isEmpty

def DownLoad.figures (d : DownLoad) : DownFigures := ⟨d.count, d.redStands, d.downOutsideZones⟩

/-- The count has counted the spindle, or its lamp fact has. -/
def DownLoad.counts (d : DownLoad) (p : Nat) : Bool :=
  d.falsePieces.contains p || d.unqueued.contains p || d.reds.contains p || d.outsideZones.contains p

/-- The count without a spindle. -/
def DownLoad.without (d : DownLoad) (p : Nat) : DownLoad :=
  ⟨d.falsePieces.filter (· != p), d.unqueued.filter (· != p), d.reds.filter (· != p),
    d.outsideZones.filter (· != p)⟩

/-- The END_LAMP fact (R67, R143). -/
def State.endLampFact (s : State) : Bool :=
  s.pd.downLoad.a.redStands || s.pd.downLoad.a.downOutsideZones ||
    s.pd.downLoad.b.redStands || s.pd.downLoad.b.downOutsideZones

/-- The output lines as the facts drive them (R142, R143); the debounced inputs are kept. -/
def State.drivenLines (s : State) : Lines :=
  { s.dcu.lines with
    runPermit := s.runPermitFact
    endLamp := s.dcu.lines.lampTest || s.endLampFact
    rovingLamp := s.dcu.lines.lampTest || s.cc.rovingLamp
    faultLamp := s.dcu.lines.lampTest || s.faultLampFact }

/-- What every event ends with: CC re-evaluates the ROVING_LAMP fact (R128) and DCU sets its output lines from the
facts (R142, R143). -/
def finish (s : State) : State :=
  let lamp : State := { s with cc := { s.cc with rovingLamp := s.rovingLampFact } }
  { lamp with dcu := { lamp.dcu with lines := lamp.drivenLines } }

/-- The condition of a level cause (10.6); an edge cause has none. -/
def State.levelCondition (s : State) : AlertCause → Bool
  | .railFault => s.rail.a.state == .fault || s.rail.b.state == .fault
  | .panelStop => s.dcu.lines.panelStop
  | .unitCause => busAddresses.any fun a => (s.unit a).causeFlag
  | .ceilingLocked => rowNames.any fun n => (s.ceilingRow n).latched
  | _ => false

/-! ### Shift figures (8.3) -/

/-- Efficiency in tenths of a percent (R150). -/
def ShiftRecord.efficiency (r : ShiftRecord) : Option Nat :=
  if r.evaluable = 0 then none else some (r.running * 1000 / r.evaluable)

/-- Spun mass in grams (R151). -/
def ShiftRecord.massG (r : ShiftRecord) : Nat := r.massAcc / 100000000

/-- Break rate in ends down per 1,000 spindle-hours (R152). -/
def ShiftRecord.breakRate (r : ShiftRecord) : Option Nat :=
  if r.evaluableMs = 0 then none else some (r.endsDown * 3600000000 / r.evaluableMs)

def ShiftRecord.figures (r : ShiftRecord) : ShiftFigures := ⟨r.efficiency, r.massG, r.breakRate⟩

end Sys2Proof.Machine
end

