-- ==== Sys2Proof/Machine/Ceiling.lean ====
section
/-! DEFINITION. The Drive Ceiling Unit (chapter 7): the condition rows and their dwell, lock and release (R131 to R133),
the effective ceiling (R134), the BREAK_RATE cause (R136), the drive channel (R138 to R141) and the meanings of the
panel rows, of the dwell and disobey limits and of the grace timer. -/

namespace Sys2Proof.Machine

/-! ### The effective ceiling (R134) -/

/-- Recompute the sent ceiling and its flag; a change is reported. -/
def recomputeCeiling (s : State) : State :=
  let m := s.effectiveCeiling
  let f := s.effectivePositioning
  if m = s.dcu.ceiling ∧ f = s.dcu.positioning then s
  else postEvent (.ceilingChange s.dcu.ceiling m f s.activeRows)
    (s.modDcu fun d => { d with ceiling := m, positioning := f })

/-! ### Rows (R132) -/

/-- The report of an activation or a drop. -/
def reportRow (n : RowName) (s : State) : State :=
  postEvent (.ceilingRow n (s.ceilingRow n).active (s.ceilingRow n).latched (s.railOf s.countingSide).sweepIndex) s

/-- A row becomes active, with dwell_count 0 and latched no. -/
def activateRow (n : RowName) (s : State) : State :=
  reportRow n (s.setRow n { s.ceilingRow n with active := true, latched := false, dwellCount := 0 })

/-- A row becomes inactive; it keeps its dwell_count. -/
def dropRow (n : RowName) (s : State) : State :=
  reportRow n (s.setRow n { s.ceilingRow n with active := false, latched := false })

/-- The drop test: an active, unlatched row without its cause drops at or past dwell_min. -/
def CeilingRow.dropsNow (r : CeilingRow) : Bool :=
  r.active && !r.latched && !r.cause && r.dwellMin ≤ r.dwellCount

def dropTest (n : RowName) (s : State) : State := if (s.ceilingRow n).dropsNow then dropRow n s else s

/-- A row becomes latched: an occurrence of CEILING_LOCKED (R133). -/
def latchRow (n : RowName) (s : State) : State :=
  raiseAlert .ceilingLocked none (s.setRow n { s.ceilingRow n with latched := true })

/-- The cause of a row becomes present. Between a warm restart and the first close after it the cause is only
recorded (R146, log entry 12). -/
def causePresent (n : RowName) (s : State) : State :=
  let r := s.ceilingRow n
  if r.cause then s
  else
    let s1 := s.setRow n { r with cause := true }
    if s.dcu.reevaluate then s1
    else if r.active then s1.setRow n { r with cause := true, latched := false }
    else if r.enable then activateRow n s1 else s1

/-- The cause of a row ends: a locked active row latches, another takes its drop test. -/
def causeAbsent (n : RowName) (s : State) : State :=
  let r := s.ceilingRow n
  if !r.cause then s
  else
    let s1 := s.setRow n { r with cause := false }
    if s.dcu.reevaluate then s1
    else if r.active && r.lock then latchRow n s1
    else dropTest n s1

/-- The owner hands the cause of a row (R135). -/
def setCause (n : RowName) (present : Bool) (s : State) : State :=
  recomputeCeiling (if present then causePresent n s else causeAbsent n s)

/-- The mode of a row, and for DOFF its positioning flag. -/
def setRowMode (n : RowName) (m : Option CeilingMode) (positioning : Bool) (s : State) : State :=
  s.setRow n { s.ceilingRow n with mode := m, positioning := positioning }

/-- DC hands the DOFF row's cause and mode (R108). -/
def setDoffRow (present : Bool) (m : Option CeilingMode) (positioning : Bool) (s : State) : State :=
  setCause .doff present (setRowMode .doff m positioning s)

/-- A dwell advance of one row, with its drop test. -/
def advanceDwell (n : RowName) (s : State) : State :=
  let r := s.ceilingRow n
  if r.active then dropTest n (s.setRow n { r with dwellCount := satAdd 255 r.dwellCount 1 }) else s

/-- The re-evaluation of one row at the first close after a warm restart (R146). A locked row that was not active becomes
active like an unlocked one where it is enabled and its cause is present (DESIGN CHOICE, log entry 68). -/
def reevaluateRow (n : RowName) (s : State) : State :=
  let r := s.ceilingRow n
  if r.active && r.lock then
    if r.cause then s.setRow n { r with latched := false }
    else if r.latched then s else latchRow n s
  else if r.enable && r.cause then (if r.active then s else activateRow n s)
  else if r.active then dropRow n s else s

/-- The Drive Ceiling Unit at step 7 of a close, before the other blocks act: the re-evaluation after a warm restart,
or the dwell advance at a close of the counting side (R132, R146, log entry 10). The ceiling is recomputed at each
row's change (R134); the order of the rows is that of 7.1 (DESIGN CHOICE, log entry 57). -/
def ceilingAtClose (sd : Side) (s : State) : State :=
  if s.dcu.reevaluate then
    rowNames.foldl (fun x n => recomputeCeiling (reevaluateRow n x)) (s.modDcu fun d => { d with reevaluate := false })
  else if sd = s.countingSide then rowNames.foldl (fun x n => recomputeCeiling (advanceDwell n x)) s
  else s

/-- An accepted release of a latched row (R133). -/
def releaseRow (n : RowName) (s : State) : State :=
  recomputeCeiling (dropTest n (s.setRow n { s.ceilingRow n with latched := false }))

/-- The drop test at the application of a CEILING_ROWS write. Between a warm restart and the first close after it no row
takes it: every row keeps active until that close re-evaluates it (R146, log entry 12). -/
def appliedTest (n : RowName) (s : State) : State := if s.dcu.reevaluate then s else dropTest n s

/-- The application of a CEILING_ROWS write (R131). -/
def applyCeilingRow (n : RowName) (enable lock : Bool) (dwellMin : Nat) (s : State) : State :=
  let r := s.ceilingRow n
  let s1 := s.setRow n { r with enable := enable, lock := lock, dwellMin := dwellMin }
  recomputeCeiling <|
    if r.enable && !enable then (if r.active then dropRow n s1 else s1)
    else if !r.enable && enable && r.cause && !r.active then activateRow n s1
    else if r.lock && !lock && r.latched then
      appliedTest n (s1.setRow n { s1.ceilingRow n with latched := false })
    else appliedTest n s1

/-! ### BREAK_RATE (R136) -/

/-- A side meets the end test: two rates at or below trim_off, or none. -/
def RateHistory.endTest (trimOff : Nat) (h : RateHistory) : Bool :=
  match h.latest, h.before with
  | some x, some y => x ≤ trimOff && y ≤ trimOff
  | none, none => true
  | _, _ => false

def RateHistory.highTest (trimOn : Nat) (h : RateHistory) : Bool :=
  match h.latest with
  | some x => trimOn ≤ x
  | none => false

/-- The test of the BREAK_RATE cause. -/
def testBreakRate (s : State) : State :=
  let ends (sd : Side) : Bool := !s.configured sd || (s.dcu.rates.get sd).endTest s.thresholds.trimOff
  if (s.ceilingRow .breakRate).cause then
    if ends .a && ends .b then setCause .breakRate false s else s
  else if s.dcu.rates.a.highTest s.thresholds.trimOn || s.dcu.rates.b.highTest s.thresholds.trimOn then
    setCause .breakRate true s
  else s

/-- DCU takes a block's rate. -/
def takeRate (sd : Side) (rate : Nat) (s : State) : State :=
  testBreakRate (s.modDcu fun d =>
    { d with rates := d.rates.mod sd fun h => ⟨some (min max32 rate), h.latest⟩ })

/-- A side brought to IDLE loses its history. -/
def dropRates (sd : Side) (s : State) : State :=
  testBreakRate (s.modDcu fun d => { d with rates := d.rates.set sd {} })

/-! ### The drive channel (R138 to R141) -/

/-- What a frame to the drive carries (R138, R139, R162). -/
def State.ceilingPart (s : State) : CeilingPart :=
  ⟨s.dcu.ceiling, s.dcu.positioning, s.dcu.startPending && 2 ≤ modeRank s.dcu.ceiling⟩

/-- The disobey count reaches 3 (R140). -/
def raiseDisobey (reported carried : CeilingMode) (s : State) : State :=
  postEvent (.driveEvent (.disobey reported carried)) (raiseAlert .driveDisobey none s)

/-- The disobey count after a report of mode `reported` to a frame that carried the ceiling `carried` (R140). -/
def countDisobey (reported carried : CeilingMode) (s : State) : State :=
  if modeRank carried < modeRank reported then
    let s1 := s.modDcu fun d => { d with disobey := satAdd 3 d.disobey 1 }
    if s.dcu.disobey = 2 then raiseDisobey reported carried s1 else s1
  else s.modDcu fun d => { d with disobey := 0 }

/-- The fault flag of the last ACTUAL; clear before the first (log entry 28). -/
def State.driveFaultFlag (s : State) : Bool :=
  match s.dcu.lastActual with
  | some a => a.fault
  | none => false

/-- An ACTUAL is taken (R138 to R140). The report of its fault flag is posted before the one of a third disobedience (DESIGN
CHOICE, log entry 78). -/
def takeActual (carried : Option CeilingPart) (a : Actual) (s : State) : State :=
  let s1 := s.modDcu fun d => { d with lastActual := some a, confirmed := true }
  let s2 := if a.fault = s.driveFaultFlag then s1 else postEvent (.driveEvent (.faultFlag a.fault)) s1
  match carried with
  | some c =>
    let s3 := if c.start then s2.modDcu fun d => { d with startPending := false } else s2
    countDisobey a.mode c.mode s3
  | none => s2

/-- DC's start request (R139). -/
def requestStart (s : State) : State := s.modDcu fun d => { d with startPending := true }

/-- The drive unit leaves ONLINE, or its role is removed: the grace timer starts with 2 s and the Doff Controller's
drive_at_doff becomes no at the same moment (R96, R141). -/
def startGrace (s : State) : State :=
  (s.modDcu fun d => { d with graceTimer := some 2000 }).modDoff fun d => { d with driveAtDoff := false }

/-- The drive unit returns to ONLINE (R141). -/
def driveReturns (s : State) : State := s.modDcu fun d => { d with graceTimer := none, graceExpired := false }

/-- The grace timer's expiry (R141). -/
def expireGrace (s : State) : State :=
  if s.dcu.graceTimer.isSome then
    postEvent (.driveEvent .offline) (raiseAlert .driveOffline none
      (s.modDcu fun d => { d with graceTimer := none, graceExpired := true }))
  else s

/-! ### Panel lines (R135, R144) -/

/-- The debounced level of a panel line. -/
def Lines.level (l : Lines) : PanelLine → Bool
  | .panelStop => l.panelStop
  | .doffCall => l.doffCall
  | .creelDone => l.creelDone
  | .lampTest => l.lampTest

def Lines.setLevel (l : Lines) (x : PanelLine) (level : Bool) : Lines :=
  match x with
  | .panelStop => { l with panelStop := level }
  | .doffCall => { l with doffCall := level }
  | .creelDone => { l with creelDone := level }
  | .lampTest => { l with lampTest := level }

def PanelInputs.get (i : PanelInputs) : PanelLine → PanelInput
  | .panelStop => i.panelStop
  | .doffCall => i.doffCall
  | .creelDone => i.creelDone
  | .lampTest => i.lampTest

def PanelInputs.set (i : PanelInputs) (x : PanelLine) (v : PanelInput) : PanelInputs :=
  match x with
  | .panelStop => { i with panelStop := v }
  | .doffCall => { i with doffCall := v }
  | .creelDone => { i with creelDone := v }
  | .lampTest => { i with lampTest := v }

/-- The debounced level of a line changes: the line has shown the new level for 50 ms, and its next change is awaited. -/
def setLevel (x : PanelLine) (level : Bool) (s : State) : State :=
  if s.dcu.lines.level x = level then s
  else s.modDcu fun d => { d with lines := d.lines.setLevel x level, inputs := d.inputs.set x ⟨level, 0⟩ }

/-- The debounced PANEL_STOP level changes. -/
def setPanelStop (level : Bool) (s : State) : State :=
  if s.dcu.lines.panelStop = level then s
  else
    let s1 := setLevel .panelStop level s
    setCause .panelStop level (if level then raiseAlert .panelStop none s1 else s1)

/-! ### Meanings -/

/-- PANEL_STOP (R144). -/
def execPanelStop (level : Bool) (s : State) : Host.Outcome State Fault Refusal :=
  .next (finish (setPanelStop level s))

/-- LAMP_TEST (R143, R144). -/
def execLampTest (level : Bool) (s : State) : Host.Outcome State Fault Refusal :=
  .next (finish (setLevel .lampTest level s))

/-- GRACE_TIMER_EXPIRY (R141). -/
def execGraceTimerExpiry (s : State) : Host.Outcome State Fault Refusal := .next (finish (expireGrace s))

/-- DWELL_DROP (R132): the dwell advance that brings an active, unlatched row without its cause to dwell_min
(log entry 2). -/
def execDwellDrop (row : RowName) (s : State) : Host.Outcome State Fault Refusal :=
  let r := s.ceilingRow row
  .next (finish (if !s.dcu.reevaluate && r.active && !r.latched && !r.cause && r.dwellMin ≤ r.dwellCount + 1 then
    recomputeCeiling (dropRow row (s.setRow row { r with dwellCount := satAdd 255 r.dwellCount 1 })) else s))

/-- The ceiling that the frame to the drive in progress carries; the sent ceiling where no frame is in progress. -/
def State.carriedCeiling (s : State) : CeilingMode :=
  match s.sbm.current with
  | some x => match x.ceiling with
    | some c => c.mode
    | none => s.dcu.ceiling
  | none => s.dcu.ceiling

/-- DISOBEY_LIMIT (R140): the report above the ceiling carried that brings the disobey count from 2 to 3
(log entry 2). -/
def execDisobeyLimit (mode : CeilingMode) (s : State) : Host.Outcome State Fault Refusal :=
  .next (finish (if s.dcu.disobey = 2 && modeRank s.carriedCeiling < modeRank mode then
    countDisobey mode s.carriedCeiling s else s))

end Sys2Proof.Machine
end

