-- ==== Sys2Proof/Machine/Spindles.lean ====
section
/-! DEFINITION. The Spindle Table (chapter 2): the classification arithmetic (R21 to R23), the transitions of one
spindle at a sweep close (R25 to R31), and the Spindle Table's answers to the requests of the other blocks (R32 to
R37) and of management (R39 to R41), spindle by spindle. -/

namespace Sys2Proof.Machine

/-! ### Entering a state (R19) -/

/-- The states that carry down_since (2.1). -/
def SpindleState.carriesDown : SpindleState → Bool
  | .down | .piecing | .red | .rovingOut => true
  | _ => false

/-- A transition into state `st` at sweep index `idx`: both run counts 0, the optional fields the state carries kept
or newly present, the others absent, and queued no where the spindle leaves DOWN (R19). -/
def Spindle.enter (idx : Nat) (st : SpindleState) (r : Spindle) : Spindle :=
  { r with
    state := st
    belowRun := 0
    aboveRun := 0
    downSince := if st.carriesDown then (if r.state.carriesDown then r.downSince else some idx) else none
    observedRun := if st = .piecing then (if r.state = .piecing then r.observedRun else some false) else none
    verifyCount := if st = .verify then (if r.state = .verify then r.verifyCount else some 0) else none
    queued := if r.state = .down then false else r.queued }

/-! ### Classification (R21 to R23) -/

/-- What the Spindle Table receives for one spindle at one close (1.8). -/
inductive Observation where
  | noData | masked | paused | forcedRun | forcedDown | sensorFault
  | count (c : Nat)
deriving DecidableEq, Repr

inductive Verdict where
  | run | slip | below
deriving DecidableEq, Repr

/-- The verdict of a traveller count (R22): exact cross-multiplication by 262,144,000. -/
def countVerdict (t : Thresholds) (p tpm c : Nat) : Verdict :=
  if c = 4095 then .run
  else if p * t.mppQ * tpm * t.thrRun ≤ c * 262144000 then .run
  else if c * 262144000 < p * t.mppQ * tpm * t.thrBreak then .below
  else .slip

/-- The verdict of an observation, `none` where it is not evaluable (R21, R23). -/
def evaluate (t : Thresholds) (p : Nat) (article : Option Article) : Observation → Option Verdict
  | .forcedRun => some .run
  | .forcedDown => some .below
  | .count c =>
    match article with
    | some a => if t.pMin ≤ p then some (countVerdict t p a.tpm c) else none
    | none => none
  | _ => none

/-! ### Transitions at the sweep close (R25 to R31) -/

/-- What classification makes of one spindle: its record, and what the other blocks count or are told. -/
structure ClassOut where
  spindle : Spindle
  confirmed : Bool := false
  doffStart : Bool := false
  handPieced : Bool := false
  handCreeled : Bool := false
  falsePiece : Bool := false
  moved : Nat := 0
deriving DecidableEq, Repr

/-- The confirmation of an end-down (R28), into ROVING_OUT where the bobbin is exhausted. -/
def confirmDown (idx : Nat) (exhausted : Bool) (r : Spindle) : ClassOut where
  spindle :=
    { r.enter idx (if exhausted then .rovingOut else .down) with
      provisionalMm := 0
      downSince := some idx
      attempts := 0
      endsDown := satAdd 255 r.endsDown 1
      afterDoff := false }
  confirmed := true
  doffStart := r.afterDoff

/-- R25. -/
def classifyUnknown (t : Thresholds) (idx : Nat) (exhausted : Bool) (v : Verdict) (r : Spindle) : ClassOut :=
  match v with
  | .below =>
    let n := satAdd 15 r.belowRun 1
    if t.downConfirm ≤ n then confirmDown idx exhausted r
    else { spindle := { r with belowRun := n, aboveRun := 0 } }
  | v =>
    let n := satAdd 15 r.aboveRun 1
    if t.runConfirm ≤ n then
      { spindle := { r.enter idx (if v = .run then .running else .slipping) with afterDoff := false } }
    else { spindle := { r with aboveRun := n, belowRun := 0 } }

/-- A spinning spindle goes to the state a RUN or SLIP verdict gives; nothing changes where it already holds it. -/
def spinTo (idx : Nat) (v : Verdict) (r : Spindle) : Spindle :=
  let st := if v = .run then SpindleState.running else .slipping
  if r.state = st then r else r.enter idx st

/-- R26. -/
def classifySpinning (t : Thresholds) (idx : Nat) (exhausted : Bool) (v : Verdict) (r : Spindle) : ClassOut :=
  match v with
  | .below =>
    if t.downConfirm = 1 then confirmDown idx exhausted r
    else { spindle := { r.enter idx .suspect with belowRun := 1, provisionalMm := 0 } }
  | v => { spindle := spinTo idx v r }

/-- R27. -/
def classifySuspect (t : Thresholds) (idx : Nat) (exhausted : Bool) (v : Verdict) (r : Spindle) : ClassOut :=
  match v with
  | .below =>
    let n := satAdd 15 r.belowRun 1
    if t.downConfirm ≤ n then confirmDown idx exhausted r else { spindle := { r with belowRun := n } }
  | v =>
    let cop := satAdd max32 r.copMm r.provisionalMm
    { spindle := { spinTo idx v r with copMm := cop, provisionalMm := 0 }
      moved := cop - r.copMm }

/-- R29. -/
def classifyDown (t : Thresholds) (idx : Nat) (v : Verdict) (r : Spindle) : ClassOut :=
  match v with
  | .below => { spindle := { r with aboveRun := 0 } }
  | _ =>
    let n := satAdd 15 r.aboveRun 1
    if t.runConfirm ≤ n then
      { spindle := { r.enter idx .running with attempts := 0 }
        handPieced := r.state != .rovingOut
        handCreeled := r.state == .rovingOut }
    else { spindle := { r with aboveRun := n } }

/-- R30. -/
def classifyPiecing (t : Thresholds) (v : Verdict) (r : Spindle) : ClassOut :=
  match v with
  | .below => { spindle := { r with aboveRun := 0, observedRun := some false } }
  | _ =>
    let n := satAdd 15 r.aboveRun 1
    { spindle := { r with aboveRun := n, observedRun := if t.runConfirm ≤ n then some true else r.observedRun } }

/-- R31. -/
def classifyVerify (t : Thresholds) (idx : Nat) (v : Verdict) (r : Spindle) : ClassOut :=
  let n := satAdd 15 (r.verifyCount.getD 0) 1
  let below := if v = .below then satAdd 15 r.belowRun 1 else 0
  if t.downConfirm ≤ below then
    let tries := satAdd 7 r.attempts 1
    { spindle :=
        { r.enter idx (if t.attemptsMax ≤ tries then .red else .down) with
          attempts := tries
          downSince := some idx }
      falsePiece := true }
  else if t.verifySweeps ≤ n then
    if below = 0 then { spindle := { r.enter idx .running with attempts := 0 } }
    else { spindle := { r.enter idx .suspect with belowRun := below, provisionalMm := 0, attempts := 0 } }
  else { spindle := { r with verifyCount := some n, belowRun := below } }

/-- What an evaluable verdict does to a spindle in step 3 (2.4.2). -/
def classify (t : Thresholds) (idx : Nat) (exhausted : Bool) (v : Verdict) (r : Spindle) : ClassOut :=
  match r.state with
  | .unknown => classifyUnknown t idx exhausted v r
  | .running | .slipping => classifySpinning t idx exhausted v r
  | .suspect => classifySuspect t idx exhausted v r
  | .down | .red | .rovingOut => classifyDown t idx v r
  | .piecing => classifyPiecing t v r
  | .verify => classifyVerify t idx v r
  | .masked | .doffPause => { spindle := r }

/-- A spindle at a close: a verdict classifies it, an observation that is not evaluable leaves it (R21). -/
def classifyObserved (t : Thresholds) (p : Nat) (article : Option Article) (idx : Nat) (exhausted : Bool)
    (o : Observation) (r : Spindle) : ClassOut :=
  match evaluate t p article o with
  | some v => classify t idx exhausted v r
  | none => { spindle := r }

/-! ### Requests of the other blocks (R32 to R37) -/

/-- The sweep index of a position's side. -/
def State.indexAt (s : State) (p : Nat) : Nat := (s.railOf (sideOf p)).sweepIndex

/-- Take for job (R32): the record after an accepted request; `none` where it is refused. -/
def takeForJob (p : Nat) (s : State) : Option State :=
  let r := s.spindle p
  if r.state = .down then some (s.setSpindle p (r.enter (s.indexAt p) .piecing)) else none

/-- An entry into RED is counted and reported (R34). -/
def enteredRed (p : Nat) (s : State) : State :=
  postEvent (.spindleRed (sideOf p) p (s.spindle p).attempts (s.indexAt p))
    (s.modRecord (sideOf p) fun x => { x with redEvents := satAdd max32 x.redEvents 1 })

/-- Job pieced (R33). -/
def jobPieced (p : Nat) (s : State) : State :=
  let r := s.spindle p
  if r.state = .piecing then
    if r.observedRun = some true then s.setSpindle p { r.enter (s.indexAt p) .running with attempts := 0 }
    else s.setSpindle p (r.enter (s.indexAt p) .verify)
  else s

/-- Job ended, failed (R34). -/
def jobFailed (p : Nat) (s : State) : State :=
  let r := s.spindle p
  if r.state = .piecing then
    let tries := satAdd 7 r.attempts 1
    if s.thresholds.attemptsMax ≤ tries then
      enteredRed p (s.setSpindle p { r.enter (s.indexAt p) .red with attempts := tries })
    else s.setSpindle p { r.enter (s.indexAt p) .down with attempts := tries }
  else s

/-- Job ended, blocked (R34). -/
def jobBlocked (p : Nat) (s : State) : State :=
  let r := s.spindle p
  if r.state = .piecing then enteredRed p (s.setSpindle p (r.enter (s.indexAt p) .red)) else s

/-- Job ended, withdrawn (R34). -/
def jobWithdrawn (p : Nat) (s : State) : State :=
  let r := s.spindle p
  if r.state = .piecing then s.setSpindle p (r.enter (s.indexAt p) .down) else s

/-- The roving-out request (R37). -/
def rovingOutRequest (p : Nat) (s : State) : State :=
  let r := s.spindle p
  if r.state = .piecing then
    (s.setSpindle p (r.enter (s.indexAt p) .rovingOut)).modRecord (sideOf p)
      fun x => { x with rovingOutEvents := satAdd max32 x.rovingOutEvents 1 }
  else s

/-- The roving-restored request (R37). -/
def rovingRestored (p : Nat) (s : State) : State :=
  let r := s.spindle p
  if r.state = .rovingOut then s.setSpindle p { r.enter (s.indexAt p) .down with attempts := 0 } else s

/-- The pause of one spindle (R35). -/
def Spindle.pause (r : Spindle) : Spindle :=
  if r.state = .masked then r else { r.enter 0 .doffPause with attempts := 0, queued := false }

/-- The resume of one spindle (R36). -/
def Spindle.resume (r : Spindle) : Spindle :=
  if r.state = .doffPause then { r.enter 0 .unknown with afterDoff := true } else r

/-- The reset of one spindle (R43): a MASKED spindle keeps its state, another goes to `st`. -/
def Spindle.resetTo (st : SpindleState) (r : Spindle) : Spindle :=
  { r.enter 0 (if r.state = .masked then .masked else st) with attempts := 0, queued := false, provisionalMm := 0 }

/-! ### Management requests, spindle by spindle (R39 to R41) -/

/-- The mask of one spindle that is not MASKED (R39). -/
def Spindle.maskAs (k : MaskKind) (r : Spindle) : Spindle :=
  { r.enter 0 .masked with mask := k, attempts := 0, provisionalMm := 0, queued := false }

/-- The unmask of one MASKED spindle (R40). -/
def Spindle.unmask (paused : Bool) (r : Spindle) : Spindle :=
  { r.enter 0 (if paused then .doffPause else .unknown) with mask := .none, afterDoff := false }

/-- CLEAR_RED of one RED spindle (R41). -/
def Spindle.clearRed (r : Spindle) : Spindle := { r.enter 0 .down with attempts := 0 }

/-- The range names installed spindles of one side, first not after last (R38, R42, R129, R175). -/
def State.rangeSide (s : State) (first last : Nat) : Option Side :=
  if first ≤ last ∧ last < 2048 ∧ sideOf first = sideOf last ∧ s.installed first ∧ s.installed last then
    some (sideOf first)
  else none

/-- The positions from `first` to `last`. -/
def positionRange (first last : Nat) : List Nat := (List.range (last + 1 - first)).map (first + ·)

end Sys2Proof.Machine
end

