-- ==== Sys2Proof/Machine/Piecing.lean ====
section
/-! DEFINITION. The Piecing Dispatcher (chapter 4): the break queues (R64 to R66), the down-limit count (R67), the
channels and their units (R68, R69), choosing and offering (R70 to R73), the carriage's messages that need no other
block (R76, R77), cancellation (R79 to R81), doff protection (R82 to R84), zone rows (R63) and the side reset
(R86). -/

namespace Sys2Proof.Machine

/-! ### Break queues (R64, R66) -/

/-- The close at which a spindle's end-down was confirmed. -/
def State.since (s : State) (p : Nat) : Nat := (s.spindle p).downSince.getD 0

/-- `p` stands before `q` in a break queue: an earlier down_since, or the lower number of two equal ones (R64). -/
def State.older (s : State) (p q : Nat) : Bool := s.since p < s.since q || (s.since p == s.since q && p < q)

/-- The place a spindle's age gives it. -/
def insertByAge (s : State) (p : Nat) : List Nat → List Nat
  | [] => [p]
  | q :: qs => if s.older p q then p :: q :: qs else q :: insertByAge s p qs

def setQueued (p : Nat) (b : Bool) (s : State) : State := s.modSpindle p fun r => { r with queued := b }

/-- The insertion rule (R64): a full queue of 64 keeps the oldest. -/
def insertSpindle (c p : Nat) (s : State) : State :=
  let q := s.breakQueue c
  let q1 := insertByAge s p q
  if q.length < 64 then setQueued p true (s.setQueue c q1)
  else
    match q1.getLast? with
    | some last => if last = p then s else setQueued last false (setQueued p true (s.setQueue c q1.dropLast))
    | none => s

/-- A spindle leaves the break queue it stands in, and its queued becomes no (R66). -/
def dequeue (p : Nat) (s : State) : State :=
  let s1 : State := { s with pd := { s.pd with queues := tmap (fun _ q => q.filter (· != p)) s.pd.queues } }
  if (s1.spindle p).queued then setQueued p false s1 else s1

/-- A spindle in DOWN that stands in no queue goes into the queue of the enabled zone that covers it (R65, R66). -/
def requeue (p : Nat) (s : State) : State :=
  if (s.spindle p).state == .down && !(s.spindle p).queued then
    match s.zoneOf p with
    | some c => insertSpindle c p s
    | none => s
  else s

/-- Every entry of a queue that satisfies `f` leaves it. -/
def purgeQueue (c : Nat) (f : Nat → Bool) (s : State) : State :=
  let gone := (s.breakQueue c).filter f
  gone.foldl (fun x p => setQueued p false x) (s.setQueue c ((s.breakQueue c).filter fun p => !f p))

/-! ### The down-limit count (R67) -/

/-- The cause of the row DOWN_LIMIT, from the latest counts. -/
def testDownLimit (s : State) : State :=
  setCause .downLimit (s.thresholds.downLimit < s.pd.downLoad.a.count || s.thresholds.downLimit < s.pd.downLoad.b.count) s

/-- A DOWN spindle counts as a false piece: this close gave notice of one, or the side's latest count held it as one and
this close has not confirmed a new end-down of it (R78). -/
def State.stillFalse (s : State) (sd : Side) (falsePieces confirmed : List Nat) (p : Nat) : Bool :=
  (s.spindle p).state == .down && !confirmed.contains p &&
    (falsePieces.contains p || (s.pd.downLoad.get sd).falsePieces.contains p)

/-- A side's down load as it stands after a close with these false pieces and confirmed end-downs. A spindle in DOWN
counts with queued no (R67), and the spindle of a false piece with queued yes too (R78, DEDUCED, log entry 56). -/
def State.downLoadOf (s : State) (sd : Side) (falsePieces confirmed : List Nat) : DownLoad :=
  let ps := s.positions sd
  let isFalse := s.stillFalse sd falsePieces confirmed
  { falsePieces := ps.filter isFalse
    unqueued := ps.filter fun p => (s.spindle p).state == .down && !(s.spindle p).queued && !isFalse p
    reds := ps.filter fun p => (s.spindle p).state == .red
    outsideZones := ps.filter fun p => (s.spindle p).state == .down && (s.zoneOf p).isNone }

def setDownLoad (sd : Side) (d : DownLoad) (s : State) : State :=
  testDownLimit { s with pd := { s.pd with downLoad := s.pd.downLoad.set sd d } }

/-- The count at step 7 of a side's close. -/
def countDownLoad (sd : Side) (falsePieces confirmed : List Nat) (s : State) : State :=
  setDownLoad sd (s.downLoadOf sd falsePieces confirmed) s

/-- A spindle that has left DOWN or RED is taken out of the latest count of its side (R35, R39, R41, R78), and the cause of
DOWN_LIMIT is tested at once. A spindle that the latest count did not count changes nothing (log entry 43). -/
def uncount (p : Nat) (s : State) : State :=
  let d := s.pd.downLoad.get (sideOf p)
  if d.counts p then setDownLoad (sideOf p) (d.without p) s else s

/-! ### Messages to the carriage -/

/-- The channel places a message for the unit at its zone row's address. -/
def placeForChannel (c : Nat) (m : BusMsg) (s : State) : State :=
  match (s.zone c).address with
  | some a => placeMsg a m s
  | none => s

/-- A message that the Piecing Dispatcher has placed for a channel. -/
def BusMsg.ofChannel (c : Nat) : BusMsg → Bool
  | .job k _ _ | .cancel k _ | .park k => k == c
  | _ => false

/-- CANCEL takes the place of a message of the same channel that stands uncarried in the slot, or of the channel's own
JOB among the waiting messages; otherwise it enters the slot or waits (R80, R165, log entry 31). Where it replaces an
uncarried PARK or earlier CANCEL behind which the channel's own JOB waits, that JOB is dropped, so that no JOB follows its
CANCEL: R80 and R165 do not say what becomes of it (DESIGN CHOICE, log entry 66). -/
def BusUnit.placeCancel (c job : Nat) (seq : Bool) (u : BusUnit) : BusUnit :=
  if u.state = .absent then u
  else if (u.slot.any fun m => m.ofChannel c) && !u.carried then
    { u with slot := some (.cancel c seq), waiting := u.waiting.filter (· != .job c job seq) }
  else if u.waiting.contains (.job c job seq) then
    { u with waiting := u.waiting.map fun m => if m = .job c job seq then .cancel c seq else m }
  else u.place (.cancel c seq)

def placeCancel (c job : Nat) (seq : Bool) (s : State) : State :=
  match (s.zone c).address with
  | some a => s.modUnit a (BusUnit.placeCancel c job seq)
  | none => s

/-! ### Entering IDLE and OFFLINE (R68, R69, R75) -/

/-- A channel without a job in the given state: its timers stopped, its optional fields absent. -/
def Channel.clearJob (st : ChannelState) (x : Channel) : Channel :=
  { x with state := st, job := none, offlineCause := none, cancelCause := none, offerPolls := none,
           jobTimer := none, cancelTimer := none }

/-- A channel becomes IDLE from OFFERED, BUSY or CANCELLING (R75). -/
def becomeIdle (c : Nat) (byDone : Bool) (s : State) : State :=
  let x := s.channel c
  let held := x.hold || x.holdPending || (byDone && x.autoHold)
  let parks := s.pd.protection && !x.parkSent
  let s1 := s.setChannel c { x.clearJob .idle with
    hold := held || parks
    holdPending := false
    heldByDoff := x.heldByDoff || (parks && !held)
    parkSent := x.parkSent || parks }
  if parks then placeForChannel c (.park c) s1 else s1

/-- The report of a channel with an enabled zone that enters or leaves OFFLINE. -/
def reportChannel (c : Nat) (s : State) : State :=
  if (s.zone c).enabled then postEvent (.channelState c (s.channel c).state (s.channel c).offlineCause) s else s

/-- A channel becomes IDLE from OFFLINE (R68, R69, R75): offer misses 0, and a PARK under protection. A hold_pending
kept through OFFLINE is taken up (log entry 32). -/
def becomeIdleFromOffline (c : Nat) (unitReturned : Bool) (s : State) : State :=
  let x := s.channel c
  let s1 := s.setChannel c { x.clearJob .idle with
    hold := x.hold || x.holdPending
    holdPending := false
    offerMisses := 0
    carriageReady := x.carriageReady || unitReturned
    parkSent := x.parkSent || s.pd.protection }
  reportChannel c (if s.pd.protection then placeForChannel c (.park c) s1 else s1)

/-- A channel enters OFFLINE: with an enabled zone, CARRIAGE_OFFLINE is raised and the change reported (R68). -/
def goOffline (c : Nat) (cause : OfflineCause) (s : State) : State :=
  let s1 := s.setChannel c { (s.channel c).clearJob .offline with offlineCause := some cause }
  reportChannel c (if (s.zone c).enabled then raiseAlert .carriageOffline (some c) s1 else s1)

/-- The job of a channel ends withdrawn: the spindle returns to its queue (R34, R66). -/
def withdrawJob (c : Nat) (s : State) : State :=
  match (s.channel c).job with
  | some p => requeue p (jobWithdrawn p s)
  | none => s

def toggleSeq (c : Nat) (s : State) : State := s.modChannel c fun x => { x with seq := !x.seq }

/-- The channel's unit leaves ONLINE (R68, R69). -/
def loseUnit (c : Nat) (s : State) : State :=
  match (s.channel c).state with
  | .offline => s.modChannel c fun x => { x with offlineCause := some .unit }
  | .offered | .busy => goOffline c .unit (toggleSeq c (withdrawJob c s))
  | _ => goOffline c .unit s

/-- The channel's unit becomes ONLINE (R68). -/
def regainUnit (c : Nat) (s : State) : State :=
  if (s.channel c).state == .offline && (s.channel c).offlineCause == some .unit then becomeIdleFromOffline c true s
  else s

/-- The channel is bound to an ONLINE unit of role CARRIAGE (R68). -/
def State.carriageOnline (s : State) (c : Nat) : Bool :=
  match (s.zone c).address with
  | some a => (s.unit a).role == .carriage && (s.unit a).state == .online
  | none => false

/-- The channel is brought into line with the unit it is bound to (R63, R68; a unit not ONLINE: log entry 42). DESIGN
CHOICE (log entry 84): an IDLE channel that a zone write takes from one ONLINE carriage to another stays IDLE as it stands,
with the carriage ready, the offer misses and the park sent flag of before. -/
def bindChannel (c : Nat) (s : State) : State :=
  if s.carriageOnline c then regainUnit c s
  else if (s.channel c).state == .idle || (s.channel c).state == .offline then loseUnit c s
  else s

/-- The channels whose zone row names a bus address. -/
def State.channelsAt (s : State) (a : Nat) : List Nat := channelNumbers.filter fun c => (s.zone c).address == some a

/-! ### Choosing and offering (R70, R71) -/

/-- A queued spindle's age in closes of the zone's side. -/
def State.ageIn (s : State) (c p : Nat) : Nat := (s.railOf (s.zone c).side).sweepIndex - s.since p

/-- The travel distance of R70. -/
def travel (z : Zone) (position : Nat) (d : Direction) (p : Nat) : Nat :=
  match d with
  | .up => if position ≤ p then p - position else (z.last - position) + (z.last - p)
  | .down => if p ≤ position then position - p else (position - z.first) + (p - z.first)

/-- The nearer of two spindles, the lower number of two at the same distance. -/
def nearer (dist : Nat → Nat) (p q : Nat) : Nat :=
  if dist p < dist q ∨ (dist p = dist q ∧ p ≤ q) then p else q

/-- The spindle a channel chooses from its queue. -/
def State.choice (s : State) (c : Nat) : Option Nat :=
  match s.breakQueue c with
  | [] => none
  | q :: qs =>
    if (q :: qs).any (fun p => s.thresholds.maxWait ≤ s.ageIn c p) then some q
    else some (qs.foldl (nearer (travel (s.zone c) (s.channel c).position (s.channel c).direction)) q)

/-- The conditions of R70. -/
def State.mayOffer (s : State) (c : Nat) : Bool :=
  (s.channel c).state == .idle && (s.zone c).enabled && !(s.channel c).hold && !(s.channel c).block
    && (s.channel c).carriageReady && !(s.breakQueue c).isEmpty

/-- The channel makes an offer of the spindle it chooses; a refused take makes it choose again (R71). The spindle of a false
piece leaves the down-limit count as it is taken (R78). `n` bounds the number of choices by the queue's length. -/
def makeOffer : Nat → Nat → State → State
  | 0, _, s => s
  | n + 1, c, s =>
    match s.choice c with
    | none => s
    | some p =>
      match takeForJob p s with
      | some s1 =>
        let s2 := (uncount p (dequeue p s1)).modChannel c fun x =>
          { x with state := .offered, job := some p, offerPolls := some 0 }
        placeForChannel c (.job c p (s.channel c).seq) s2
      | none => makeOffer n c (dequeue p s)

def offerNow (c : Nat) (s : State) : State :=
  if s.mayOffer c then makeOffer (s.breakQueue c).length c s else s

/-- Every channel that an event has left in the condition of R70 offers. -/
def offerAll (s : State) : State := channelNumbers.foldl (fun x c => offerNow c x) s

/-! ### The offer's polls (R72) -/

/-- The offer is withdrawn. -/
def withdrawOffer (c : Nat) (s : State) : State :=
  let x := s.channel c
  let drop (s1 : State) : State :=
    match (s.zone c).address, x.job with
    | some a, some p => s1.modUnit a fun u => { u with waiting := u.waiting.filter (· != .job c p x.seq) }
    | _, _ => s1
  let s1 := (toggleSeq c (withdrawJob c (drop s))).modChannel c fun y => { y with offerMisses := satAdd 3 y.offerMisses 1 }
  if (s1.channel c).offerMisses = 3 then goOffline c .misses s1 else becomeIdle c false s1

/-- A poll of an OFFERED channel's unit that carries the JOB or follows it. -/
def countOfferPoll (c : Nat) (s : State) : State :=
  if (s.channel c).state == .offered then
    let n := (s.channel c).offerPolls.getD 0 + 1
    let s1 := s.modChannel c fun x => { x with offerPolls := some n }
    if 3 ≤ n then withdrawOffer c s1 else s1
  else s

/-! ### Cancellation (R79 to R81) -/

/-- The request to the Spindle Table that a cancellation brings. A spindle that has left PIECING refuses it. -/
def endCancelled (cause : CancelCause) (p : Nat) (s : State) : State :=
  if cause = .timeout then jobFailed p s else jobWithdrawn p s

/-- The cancellation of a channel that is OFFERED or BUSY. -/
def cancelJob (c : Nat) (cause : CancelCause) (s : State) : State :=
  let x := s.channel c
  if x.state == .offered || x.state == .busy then
    let p := x.job.getD 0
    let s1 := placeCancel c p x.seq s
    let s2 := s1.setChannel c { x.clearJob .cancelling with
      seq := !x.seq, cancelCause := some cause, cancelTimer := some 10000 }
    let s3 := requeue p (endCancelled cause p s2)
    postEvent (.jobEnd c p (.cancel cause) (s3.spindle p).state (s3.spindle p).attempts) s3
  else s

/-- The Spindle Table's notice that a spindle has left DOWN, RED or PIECING by a mask or the doff pause: it leaves its
queue and the latest count of its side, and its job is cancelled (R35, R39, R81). -/
def tellLeft (p : Nat) (s : State) : State :=
  let s1 := uncount p (dequeue p s)
  match s1.channelOfJob p with
  | some c => cancelJob c .cancelled s1
  | none => s1

/-- The end of CANCELLING by the cancel timer (R79). -/
def expireCancel (c : Nat) (s : State) : State :=
  if (s.channel c).state == .cancelling then becomeIdle c false s else s

/-- The job timer's expiry (R80). -/
def expireJob (c : Nat) (s : State) : State :=
  if (s.channel c).state == .busy then cancelJob c .timeout s else s

/-! ### The carriage's messages (R73, R76, R77) -/

/-- The ACCEPT of R73 and R76. -/
def takeAccept (c : Nat) (seq : Bool) (s : State) : AnswerCode × State :=
  let x := s.channel c
  if x.block then (.refused, s)
  else if seq = x.seq then
    match x.state with
    | .offered =>
      (.ack, s.setChannel c { x with state := .busy, offerMisses := 0, offerPolls := none,
                                     jobTimer := some (s.thresholds.jobLimit * 1000) })
    | .busy => (.ack, s)
    | _ => (.refused, s)
  else (.refused, s)

/-- The POSITION of R77: held within the zone while the zone row is enabled. DESIGN CHOICE (log entry 83): with the row
disabled the two bytes are stored as they came, a number above 2,047 too, and the answer is ACK. -/
def takePosition (c p : Nat) (d : Direction) (s : State) : AnswerCode × State :=
  let z := s.zone c
  (.ack, s.modChannel c fun x =>
    { x with position := if z.enabled then clamp z.first z.last p else p, direction := d })

/-- The STATUS of R77. -/
def takeStatus (c : Nat) (ready : Bool) (s : State) : AnswerCode × State :=
  (.ack, s.modChannel c fun x => { x with carriageReady := ready })

/-! ### Doff protection (R82 to R84) -/

/-- What a protect request makes of one channel, before the PARKs. -/
def Channel.protect (x : Channel) : Channel :=
  let waits := x.state == .idle || x.state == .offline
  let free := !x.hold && !x.holdPending
  { x with
    parkSent := false
    block := false
    hold := x.hold || (free && waits)
    holdPending := x.holdPending || (free && !waits)
    heldByDoff := x.heldByDoff || free }

/-- PARK for an IDLE channel. -/
def parkIdle (c : Nat) (s : State) : State :=
  if (s.channel c).state == .idle then
    placeForChannel c (.park c) (s.modChannel c fun x => { x with parkSent := true })
  else s

/-- A protect request. -/
def protect (s : State) : State :=
  if s.pd.protection then s
  else
    let s1 : State := { s with pd := { s.pd with protection := true, channels := tmap (fun _ x => x.protect) s.pd.channels } }
    channelNumbers.foldl (fun x c => parkIdle c x) s1

/-- What a release request makes of one channel. -/
def Channel.release (x : Channel) : Channel :=
  if x.heldByDoff then { x with hold := false, holdPending := false, heldByDoff := false, parkSent := false }
  else { x with parkSent := false }

/-- A release request. -/
def releaseProtection (s : State) : State :=
  if s.pd.protection then
    offerAll { s with pd := { s.pd with protection := false, channels := tmap (fun _ x => x.release) s.pd.channels } }
  else s

/-- A carriage-clear request (R83). Channel 0 is cancelled first, which orders the JOB_END reports (DESIGN CHOICE, log entry
67). -/
def clearCarriages (s : State) : State := channelNumbers.foldl (fun x c => cancelJob c .cleared x) s

/-! ### The close, the zones and the side reset (R63, R65, R86) -/

/-- The sweep-in of one zone (R65). -/
def sweepInZone (c : Nat) (s : State) : State :=
  let z := s.zone c
  (positionRange z.first z.last).foldl
    (fun x p => if (x.spindle p).state == .down && !(x.spindle p).queued then insertSpindle c p x else x) s

/-- The Piecing Dispatcher at step 7 of a side's close (R65), with the spindles of each notice in ascending order. -/
def piecingAtClose (sd : Side) (handPieced falsePieces confirmed : List Nat) (s : State) : State :=
  let s1 := handPieced.foldl (fun x p => dequeue p x) s
  let s2 := falsePieces.foldl (fun x p => requeue p x) s1
  let s3 := confirmed.foldl (fun x p => requeue p x) s2
  let s4 := channelNumbers.foldl
    (fun x c => if (x.zone c).enabled && (x.zone c).side == sd then sweepInZone c x else x) s3
  offerAll (countDownLoad sd falsePieces confirmed s4)

/-- The new position and direction of a channel whose zone row changes (R63). -/
def Channel.rezone (old new : Zone) (x : Channel) : Channel :=
  if old.side = new.side then { x with position := clamp new.first new.last x.position }
  else { x with position := new.first, direction := .up }

/-- The application of a ZONE_TABLE write (R63). -/
def applyZone (c : Nat) (z : Zone) (s : State) : State :=
  let s1 := (s.setZone c z).modChannel c (Channel.rezone (s.zone c) z)
  bindChannel c (purgeQueue c (fun p => !z.covers p) s1)

/-- The Piecing Dispatcher's part of a side reset, and of bringing a side to IDLE (R15, R86). Channel 0 is cancelled first,
which orders the JOB_END reports and the CANCELs (DESIGN CHOICE, log entry 76). -/
def resetSideChannels (sd : Side) (s : State) : State :=
  let mine (x : State) (c : Nat) : Bool := (x.zone c).side == sd
  let s1 := channelNumbers.foldl (fun x c => if mine x c then cancelJob c .reset x else x) s
  channelNumbers.foldl (fun x c => if mine x c then purgeQueue c (fun _ => true) x else x) s1

end Sys2Proof.Machine
end

