-- ==== Sys2Proof/Machine/Creel.lean ====
section
/-! DEFINITION. The Creel Controller (chapter 6): loads (R111), the section trigger and the transport request queue
(R118 to R120), the transport's answers and timers (R121 to R125), single changes (R126, R127), the section rows
(R113), its part of the sweep close (R117) and of the resets (R116, R130), and the meanings of the transport's
frames, its timers and the CREEL_DONE line. -/

namespace Sys2Proof.Machine

/-! ### Loads (R111) -/

/-- The bobbin record a load leaves. -/
def loadedBobbin : Option Article → Bobbin
  | some a => ⟨.loaded, a.bobbinM * 1000, 0, false⟩
  | none => {}

/-- A waiting single change of the position leaves the list. -/
def dropWaiting (p : Nat) (s : State) : State := s.modCreel fun c => { c with waiting := c.waiting.filter (· != p) }

def loadBobbin (p : Nat) (s : State) : State :=
  let s1 := (dropWaiting p (s.setBobbin p (loadedBobbin s.dc.active))).modCreel
    fun c => { c with loads := satAdd max32 c.loads 1 }
  if s.installed p then rovingRestored p s1 else s1

/-! ### The transport request queue (R119, R120) -/

/-- The positions of a row's bounds. -/
def SectionConfig.bounds (c : SectionConfig) : List Nat := positionRange c.first c.last

/-- The urgent flag of a section while it stands in the queue. -/
def State.urgentOf (s : State) (r : Nat) : Option Bool := (s.cc.queue.find? fun e => e.row == r).map (·.urgent)

/-- The SECTION_STATE report of a change from state `old` (R125), with the fields as the whole change has left them (DESIGN
CHOICE, log entry 82). -/
def reportSection (r : Nat) (old : SectionState) (reason replaced : Option Nat) (s : State) : State :=
  let x := s.creelSection r
  if x.state = old then s
  else postEvent (.sectionState r x.config.side old x.state x.lowCount (s.urgentOf r) x.resendCount reason replaced) s

/-- A section leaves the queue and the stalled order. -/
def leaveQueue (r : Nat) (s : State) : State :=
  s.modCreel fun c => { c with queue := c.queue.filter (fun e => e.row != r), stalled := c.stalled.filter (· != r) }

/-- A section is appended to the queue with the next entry number. -/
def appendQueue (r : Nat) (s : State) : State :=
  let urgent := (s.creelSection r).config.bounds.any fun p => s.installed p && (s.spindle p).state == .rovingOut
  s.modCreel fun c =>
    { c with lastEntry := c.lastEntry + 1, queue := c.queue ++ [⟨r, urgent, c.lastEntry + 1⟩] }

/-- A section enters LOW from SUPPLIED or STALLED (R118, R125). -/
def enterLow (r : Nat) (s : State) : State :=
  let old := (s.creelSection r).state
  let s1 := (leaveQueue r s).modSection r fun x => { x with state := .low, resendCount := 0, stallNumber := none }
  reportSection r old none none (appendQueue r s1)

/-- A transport frame is handed to the transport list, which holds 8 (R173). -/
def addTransport (f : ExchangeRequest) (s : State) : State :=
  if s.mli.transport.length < 8 then s.modMli fun m => { m with transport := m.transport ++ [f] }
  else s.modMli fun m => { m with transportDrop := satAdd max16 m.transportDrop 1 }

/-- The EXCHANGE_REQUEST of a section (R120); none without a transport station (log entry 33). -/
def handRequest (r : Nat) (s : State) : State :=
  let c := (s.creelSection r).config
  if s.thresholds.transportStation = 0 then s
  else addTransport ⟨s.thresholds.transportStation, s.mli.station.toNat, r, c.side, (s.urgentOf r).getD false,
    c.last + 1 - c.first⟩ s

/-- The transport timer starts with transport_limit. -/
def startTransport (r : Nat) (s : State) : State :=
  s.modSection r fun x => { x with transportTimer := some (s.thresholds.transportLimit * 1000) }

/-- A LOW section is sent (R120); its request is a new one, with resend count 0 (R123). -/
def sendSection (r : Nat) (s : State) : State :=
  let s1 := startTransport r (s.modSection r fun x => { x with state := .requested, resendCount := 0 })
  reportSection r .low none none (handRequest r s1)

/-- The section R120 sends next. -/
def State.nextToSend (s : State) : Option Nat :=
  if s.thresholds.transportStation = 0 ∨ 2 ≤ s.requestedCount then none
  else (s.cc.transportQueue.map (·.row)).find? fun r =>
    (s.creelSection r).state == .low && (s.creelSection r).backoffTimer.isNone

/-- At most `n` sections are sent. -/
def sendRequests : Nat → State → State
  | 0, s => s
  | n + 1, s =>
    match s.nextToSend with
    | some r => sendRequests n (sendSection r s)
    | none => s

/-- Everything R120 allows is sent: fewer than two sections are REQUESTED, so two sends are the most. -/
def sendWaiting (s : State) : State := sendRequests 2 s

/-- A queued section becomes urgent; one already REQUESTED is sent a further request at once (R119, R120). -/
def promote (r : Nat) (s : State) : State :=
  if s.urgentOf r = some false then
    let s1 := s.modCreel fun c =>
      { c with queue := c.queue.map fun e => if e.row = r then { e with urgent := true } else e }
    if (s.creelSection r).state == .requested then handRequest r s1 else s1
  else s

/-! ### Single changes (R126, R127) -/

/-- A spindle is eligible for a single change. -/
def State.eligibleSingle (s : State) (p : Nat) : Bool :=
  s.installed p && (s.spindle p).state == .rovingOut
    && (match s.sectionOf p with
        | some r => (s.creelSection r).state == .supplied
        | none => true)
    && !(s.bobbin p).noSingle && (s.addressOf .creelChanger).isSome
    && !s.cc.waiting.contains p && s.cc.inFlight != some p

/-- How many entries the list holds. -/
def CreelUnit.listLength (c : CreelUnit) : Nat := c.waiting.length + (if c.inFlight.isSome then 1 else 0)

def appendSingle (p : Nat) (s : State) : State :=
  if s.eligibleSingle p && s.cc.listLength < 32 then s.modCreel fun c => { c with waiting := c.waiting ++ [p] } else s

/-- The head entry is placed in the creel changer's slot where no entry is in flight (R127). -/
def placeSingle (s : State) : State :=
  match s.cc.inFlight, s.cc.waiting with
  | none, p :: ps =>
    if s.roleOnline .creelChanger then
      placeForRole .creelChanger (.singleChange p)
        (s.modCreel fun c => { c with inFlight := some p, waiting := ps, changeTimer := some 120000 })
    else s
  | _, _ => s

/-- The entry in flight leaves the list. -/
def endFlight (s : State) : State := s.modCreel fun c => { c with inFlight := none, changeTimer := none }

/-- The entry in flight has failed. -/
def failSingle (p : Nat) (s : State) : State :=
  postEvent (.singleChange p false) (endFlight (s.setBobbin p { s.bobbin p with noSingle := true }))

/-- An answer that changes nothing else advances the discarded-answer counter (R121, R127). -/
def discardAnswer (s : State) : State := s.modCreel fun c => { c with discardedAnswers := satAdd max16 c.discardedAnswers 1 }

/-- The creel changer's DONE (R127). -/
def takeChangerDone (p : Nat) (s : State) : State :=
  placeSingle <|
    if s.installed p then
      let s1 := loadBobbin p s
      postEvent (.singleChange p true) (if s.cc.inFlight = some p then endFlight s1 else s1)
    else discardAnswer s

/-- The creel changer's FAILED (R127). -/
def takeChangerFailed (p : Nat) (s : State) : State :=
  placeSingle (if s.installed p && s.cc.inFlight == some p then failSingle p s else discardAnswer s)

def BusMsg.isSingle : BusMsg → Bool
  | .singleChange _ => true
  | _ => false

/-- SINGLE_CHANGE messages leave the creel changer's slot (R127), and its waiting messages too (DESIGN CHOICE, log entry
81). -/
def dropSingles (s : State) : State :=
  match s.addressOf .creelChanger with
  | some a => dropMsgs a BusMsg.isSingle s
  | none => s

/-- The change timer's expiry (R127). -/
def expireChange (s : State) : State :=
  match s.cc.changeTimer, s.cc.inFlight with
  | some _, some p => placeSingle (failSingle p (dropSingles s))
  | _, _ => s

/-- The creel changer leaves ONLINE (R127). -/
def loseChanger (s : State) : State :=
  match s.cc.inFlight with
  | some p => s.modCreel fun c => { c with inFlight := none, changeTimer := none, waiting := p :: c.waiting }
  | none => s

/-- The unit table no longer holds a creel changer (R126). -/
def emptySingles (s : State) : State := s.modCreel fun c => { c with inFlight := none, changeTimer := none, waiting := [] }

/-! ### Roving out (R114, R115) -/

/-- A spindle has entered ROVING_OUT. -/
def enteredRovingOut (p : Nat) (s : State) : State :=
  appendSingle p (match s.sectionOf p with
    | some r => promote r s
    | none => s)

/-- A carriage found no roving (R115). -/
def takeNoRoving (p : Nat) (s : State) : State :=
  let s1 := s.setBobbin p { s.bobbin p with state := .out }
  if (s1.spindle p).state == .piecing then placeSingle (sendWaiting (enteredRovingOut p (rovingOutRequest p s1))) else s1

/-! ### The section trigger and the close (R117, R118) -/

/-- The section trigger counts the bobbin. -/
def SectionConfig.countsLow (c : SectionConfig) (b : Bobbin) : Bool :=
  match b.state with
  | .emptyEst | .out => true
  | .loaded => b.remaining ≤ c.reserveM * 1000
  | .none => false

/-- The evaluation of one section. -/
def evaluateSection (r : Nat) (s : State) : State :=
  let c := (s.creelSection r).config
  let n := (c.bounds.filter fun p => c.countsLow (s.bobbin p)).length
  let s1 := s.modSection r fun x => { x with lowCount := n }
  if c.triggerCount ≤ n then enterLow r s1 else s1

/-- The Creel Controller at step 7 of a side's close. -/
def creelAtClose (sd : Side) (rovingOut handCreeled : List Nat) (s : State) : State :=
  let s1 := rovingOut.foldl (fun x p => enteredRovingOut p x) s
  let s2 := handCreeled.foldl (fun x p => loadBobbin p x) s1
  let s3 := sectionNumbers.foldl (fun x r =>
    let y := x.creelSection r
    if y.config.enabled && y.config.side == sd && y.state == .supplied then evaluateSection r x else x) s2
  let s4 := (s3.positions sd).foldl (fun x p => appendSingle p x) s3
  placeSingle (sendWaiting s4)

/-! ### The transport controller (R121 to R125) -/

/-- The frame comes from the transport station and names a row (R121). -/
def State.fromTransport (s : State) (src row : Nat) : Bool :=
  s.thresholds.transportStation != 0 && src == s.thresholds.transportStation && row < 64

/-- An ACK of the transport. -/
def takeTransportAck (src row : Nat) (s : State) : State :=
  if s.fromTransport src row && (s.creelSection row).state == .requested then startTransport row s else discardAnswer s

/-- The section enters EXCHANGING. -/
def enterExchanging (r : Nat) (s : State) : State :=
  let old := (s.creelSection r).state
  let s1 := (leaveQueue r s).modSection r fun x =>
    { x with state := .exchanging, backoffTimer := none, resendCount := 0, stallNumber := none }
  sendWaiting (reportSection r old none none (startTransport r s1))

/-- An EXCH_START of the transport. -/
def takeExchStart (src row : Nat) (s : State) : State :=
  let x := s.creelSection row
  if s.fromTransport src row && x.config.enabled then
    match x.state with
    | .requested | .low | .stalled => enterExchanging row s
    | .exchanging => startTransport row s
    | .supplied => discardAnswer s
  else discardAnswer s

/-- The positions an EXCH_DONE loads (R122). -/
def State.exchanged (s : State) (c : SectionConfig) : List Nat :=
  if c.enabled then c.bounds else c.bounds.filter fun p => s.installed p && sideOf p == c.side

/-- The section enters SUPPLIED by an EXCH_DONE. -/
def enterSupplied (r replaced : Nat) (s : State) : State :=
  let old := (s.creelSection r).state
  let s1 := (leaveQueue r s).modSection r fun x =>
    { x with state := .supplied, transportTimer := none, backoffTimer := none, resendCount := 0,
             rejectReason := none, stallNumber := none }
  sendWaiting (reportSection r old none (some replaced) s1)

/-- An EXCH_DONE of the transport (R122). A replaced count above 96 is taken and reported as it is (DESIGN CHOICE, log
entry 61). -/
def takeExchDone (src row replaced : Nat) (s : State) : State :=
  if s.fromTransport src row then
    let c := (s.creelSection row).config
    let s1 := (s.exchanged c).foldl (fun x p => loadBobbin p x) s
    let s2 := c.bounds.foldl (fun x p => dropWaiting p x) s1
    if c.enabled then enterSupplied row replaced s2 else s2
  else discardAnswer s

/-- A REJECT of the transport (R123). -/
def takeReject (src row reason : Nat) (s : State) : State :=
  if s.fromTransport src row && (s.creelSection row).state == .requested then
    let s1 := s.modSection row fun x =>
      { x with state := .low, transportTimer := none, rejectReason := some reason, backoffTimer := some 120000 }
    sendWaiting (reportSection row .requested (some reason) none s1)
  else discardAnswer s

/-- A section enters STALLED (R124). -/
def enterStalled (r : Nat) (s : State) : State :=
  let old := (s.creelSection r).state
  let number := s.cc.lastStall + 1
  let s1 := ((leaveQueue r s).modSection r fun x =>
      { x with state := .stalled, transportTimer := none, backoffTimer := none, stallNumber := some number }).modCreel
    fun c => { c with lastStall := number, stalled := c.stalled ++ [r] }
  sendWaiting (reportSection r old none none (raiseAlert .sectionStalled (some r) s1))

/-- A section's transport timer expires (R124). -/
def expireTransport (r : Nat) (s : State) : State :=
  let x := s.creelSection r
  if x.transportTimer.isNone then s
  else
    match x.state with
    | .requested =>
      if x.resendCount < 3 then
        startTransport r ((handRequest r s).modSection r fun y => { y with resendCount := y.resendCount + 1 })
      else enterStalled r s
    | .exchanging => enterStalled r s
    | _ => s

/-- A section's backoff timer expires (R123). -/
def expireBackoff (r : Nat) (s : State) : State :=
  if (s.creelSection r).backoffTimer.isNone then s
  else sendWaiting (s.modSection r fun x => { x with backoffTimer := none })

/-- A STALLED section returns to LOW (R125). -/
def returnStalled (r : Nat) (s : State) : State := sendWaiting (enterLow r s)

/-- The debounced CREEL_DONE level changes (R125, R144): a rising edge returns the oldest STALLED section. -/
def setCreelDone (level : Bool) (s : State) : State :=
  let s1 := setLevel .creelDone level s
  if level && !s.dcu.lines.creelDone then
    match s.cc.stalled with
    | r :: _ => returnStalled r s1
    | [] => s1
  else s1

/-! ### Section rows and the side reset (R113, R116) -/

/-- The application of a SECTION_TABLE write (R113). -/
def applySection (r : Nat) (c : SectionConfig) (s : State) : State :=
  let old := (s.creelSection r).state
  let s1 := s.modSection r fun x => { x with config := c }
  if c.enabled then
    c.bounds.foldl (fun x p => if (x.bobbin p).state == .none then loadBobbin p x else x) s1
  else if old == .low || old == .stalled then
    reportSection r old none none ((leaveQueue r s1).modSection r fun x =>
      { x with state := .supplied, backoffTimer := none, stallNumber := none })
  else s1

/-- The waiting single changes of a side's spindles leave the list (R116, R130). -/
def resetSideSingles (sd : Side) (s : State) : State :=
  s.modCreel fun c => { c with waiting := c.waiting.filter fun p => sideOf p != sd }

/-! ### Meanings -/

/-- ACK of the transport controller (R121). -/
def execTransportAck (src row : Nat) (s : State) : Host.Outcome State Fault Refusal :=
  .next (finish (takeTransportAck src row s))

/-- EXCH_START (R121). -/
def execExchStart (src row : Nat) (s : State) : Host.Outcome State Fault Refusal :=
  .next (finish (takeExchStart src row s))

/-- EXCH_DONE (R122). -/
def execExchDone (src row replaced : Nat) (s : State) : Host.Outcome State Fault Refusal :=
  .next (finish (takeExchDone src row replaced s))

/-- REJECT (R123). -/
def execReject (src row reason : Nat) (s : State) : Host.Outcome State Fault Refusal :=
  .next (finish (takeReject src row reason s))

/-- TRANSPORT_TIMER_EXPIRY (R124). -/
def execTransportTimerExpiry (row : Nat) (s : State) : Host.Outcome State Fault Refusal :=
  .next (finish (expireTransport row s))

/-- BACKOFF_TIMER_EXPIRY (R123). -/
def execBackoffTimerExpiry (row : Nat) (s : State) : Host.Outcome State Fault Refusal :=
  .next (finish (expireBackoff row s))

/-- CHANGE_TIMER_EXPIRY (R127). -/
def execChangeTimerExpiry (s : State) : Host.Outcome State Fault Refusal := .next (finish (expireChange s))

/-- CREEL_DONE (R125, R144). -/
def execCreelDone (level : Bool) (s : State) : Host.Outcome State Fault Refusal := .next (finish (setCreelDone level s))

end Sys2Proof.Machine
end

