-- ==== Sys2Proof/Machine/Doff.lean ====
section
/-! DEFINITION. The Doff Controller (chapter 5): the doff state and its rows (R90, R108), the entries to each state
(R94, R95, R99, R103, R104, R106), the cop record (R100, R101), the readiness facts (R96, R97), the settle and ramp
(R103, R104), the pause and resume of the spindles (R35, R36), and the meanings of its timers, of the DOFF_CALL line
and of the channel timers, whose expiry may complete readiness. -/

namespace Sys2Proof.Machine

/-! ### The doff state (R90, R108) -/

/-- The DOFF row's cause, mode and positioning flag in a doff state (R108). -/
def DoffState.row : DoffState → Bool × Option CeilingMode × Bool
  | .unconfigured | .build | .nearFull => (false, none, false)
  | .full | .doffing | .doffFault => (true, some .stop, true)
  | .settle => (true, some .crawl, false)
  | .ramp => (true, some .trim, false)

/-- The DOFF and DOFF_FAULT rows are set by the doff state (R108). -/
def setDoffRows (s : State) : State :=
  let (present, mode, positioning) := s.dc.state.row
  setCause .doffFault (s.dc.state == .doffFault) (setDoffRow present mode positioning s)

/-- A change of the doff state: the record, its report with the values of that moment, and the two rows (R90, log
entry 34). -/
def setDoffState (st : DoffState) (s : State) : State :=
  let s1 := s.modDoff fun d => { d with state := st, settlePaused := if st = .settle then some true else none }
  setDoffRows (postEvent (.doffState s.dc.state st s1.dc.delivered s1.dc.fullTarget s1.dc.doffNumber
    s1.dc.origin s1.dc.faultReason) s1)

/-! ### Messages to the doffer -/

def placeForDoffer (m : BusMsg) (s : State) : State := placeForRole .doffer m s

def BusMsg.isDoffer : BusMsg → Bool
  | .doffPrepare | .doffStart => true
  | _ => false

/-- The Doff Controller's messages leave the doffer's slot and its waiting messages (R106). -/
def dropDofferMsgs (s : State) : State :=
  match s.addressOf .doffer with
  | some a => dropMsgs a BusMsg.isDoffer s
  | none => s

/-! ### Pause and resume (R35, R36) -/

/-- The pause request, with the notices it gives in ascending spindle order (log entry 65). -/
def pauseSpindles (s : State) : State :=
  let ps := s.allPositions
  let left := ps.filter fun p =>
    (s.spindle p).state == .down || (s.spindle p).state == .red || (s.spindle p).state == .piecing
  let creels := ps.filter fun p => (s.spindle p).state == .rovingOut
  let s1 : State := { s with spindles := tmap (fun p r => if s.installed p then r.pause else r) s.spindles }
  creels.foldl (fun x p => dropWaiting p x) (left.foldl (fun x p => tellLeft p x) s1)

/-- The resume request. -/
def resumeSpindles (s : State) : State := { s with spindles := tmap (fun _ r => r.resume) s.spindles }

/-! ### The cop record (R100, R101) -/

inductive CopClass where
  | empty | full | short | middle
deriving DecidableEq, Repr

/-- The class of a spindle's cop against the full target. -/
def copClass (fullTarget shortQ8 : Nat) (r : Spindle) : CopClass :=
  if r.state = .masked ∨ r.copMm < 1000 then .empty
  else if fullTarget * 243 ≤ r.copMm * 256 then .full
  else if r.copMm * 256 < fullTarget * shortQ8 then .short
  else .middle

/-- The short-cop limit of the active article. -/
def DoffUnit.shortQ8 (d : DoffUnit) : Nat := match d.active with | some a => a.shortCopQ8 | none => 0

def State.copSide (s : State) (sd : Side) : CopSide :=
  let rs := (s.positions sd).map s.spindle
  let cls := rs.map (copClass s.dc.fullTarget s.dc.shortQ8)
  { configured := s.configured sd
    installed := (s.railOf sd).installed
    empty := cls.count .empty
    full := cls.count .full
    short := cls.count .short
    middle := cls.count .middle
    totalMm := ((rs.filter fun r => r.state != .masked).map (·.copMm)).sum }

/-- The cop record as it is taken; the doff number has already advanced. -/
def State.copRecord (s : State) : CopRecord :=
  { sides := ⟨s.copSide .a, s.copSide .b⟩
    article := s.dc.articleNumber
    doffNumber := s.dc.doffNumber
    delivered := s.dc.delivered
    sweepIndex := (s.railOf s.countingSide).sweepIndex }

/-- A configured side's shift record takes the doff's figures (R101). -/
def countDoff (sd : Side) (r : CopRecord) (s : State) : State :=
  if s.configured sd then
    s.modRecord sd fun x =>
      { x with shortCops := satAdd max32 x.shortCops (r.sides.get sd).short, doffs := satAdd max32 x.doffs 1 }
  else s

/-- The cop record is kept, reported and counted (R101). -/
def takeCopRecord (s : State) : State :=
  let r := s.copRecord
  countDoff .b r (countDoff .a r (postRecord (.cop r) (s.modDoff fun d => { d with lastCop := some r })))

/-! ### Entering DOFFING, FULL, NEAR_FULL, BUILD, RAMP -/

/-- Entry to DOFFING (R99). -/
def enterDoffing (s : State) : State :=
  let s0 := setDoffState .doffing (s.modDoff fun d => { d with stopTimer := none, clearTimer := none })
  let s1 := pauseSpindles s0
  let s2 := takeCopRecord (s1.modDoff fun d => { d with doffNumber := d.doffNumber + 1 })
  let s3 : State := { s2 with spindles := tmap (fun _ r => { r with copMm := 0, provisionalMm := 0 }) s2.spindles }
  let s4 := s3.modDoff fun d =>
    { d with delivered := 0
             active := if d.next.isSome then d.next else d.active
             next := none
             deferExt := 0
             deferTaken := false
             dofferReady := false }
  (placeForDoffer .doffStart s4).modDoff fun d => { d with doffTimer := some (s.thresholds.doffLimit * 1000) }

/-- Readiness is tested (R97). -/
def testReadiness (s : State) : State :=
  if s.dc.state == .full && s.dc.driveAtDoff && s.dc.dofferReady && s.dc.carriagesClear then enterDoffing s else s

/-- The carriages-clear fact as the Piecing Dispatcher tells it (R83, R96). -/
def hearCarriages (s : State) : State := s.modDoff fun d => { d with carriagesClear := s.carriagesClearFact }

/-- Entry to FULL (R95). -/
def enterFull (s : State) : State :=
  let s1 := protect (setDoffState .full s)
  let s2 := s1.modDoff fun d =>
    { d with protecting := true, stopTimer := some (s.thresholds.stopLimit * 1000), clearTimer := some 30000 }
  testReadiness (hearCarriages s2)

/-- Entry to NEAR_FULL (R94). -/
def enterNearFull (s : State) : State :=
  let s1 := placeForDoffer .doffPrepare (setDoffState .nearFull s)
  postEvent (.doffSoon s1.dc.fullTarget s1.dc.delivered s1.dc.articleNumber) s1

/-- The length test of a frame in BUILD (R94). -/
def testBuild (s : State) : State :=
  if s.dc.fullTarget ≤ s.dc.delivered then enterFull (enterNearFull s)
  else if s.dc.prewarnPoint ≤ s.dc.delivered then enterNearFull s
  else s

/-- Entry to BUILD (R94, R96). -/
def enterBuild (s : State) : State :=
  testBuild (setDoffState .build (s.modDoff fun d => { d with dofferReady := false }))

/-- The length test of R94. -/
def testLength (s : State) : State :=
  match s.dc.state with
  | .build => testBuild s
  | .nearFull =>
    if s.dc.fullTarget ≤ s.dc.delivered then enterFull s
    else if s.dc.delivered < s.dc.prewarnPoint then enterBuild s
    else s
  | _ => s

/-- The ramp length test (R104). -/
def testRamp (s : State) : State :=
  if (match s.dc.active with | some a => a.rampM * 1000 | none => 0) ≤ s.dc.delivered then enterBuild s else s

/-- Entry to RAMP (R104). -/
def enterRamp (s : State) : State :=
  testRamp ((releaseProtection (setDoffState .ramp s)).modDoff fun d => { d with protecting := false })

/-- Entry to SETTLE (R103). -/
def enterSettle (s : State) : State :=
  requestStart (setDoffState .settle (s.modDoff fun d => { d with settleCount := 0 }))

/-- Entry to DOFF_FAULT (R106). -/
def enterDoffFault (origin : DoffOrigin) (reason : FaultReason) (s : State) : State :=
  let s1 := setDoffState .doffFault (s.modDoff fun d =>
    { d with stopTimer := none, clearTimer := none, doffTimer := none, origin := some origin,
             faultReason := some reason, dofferReady := false })
  dropDofferMsgs (raiseAlert .dofferFault none s1)

/-! ### The facts told to the Doff Controller (R96) -/

/-- The Drive Ceiling Unit tells a change of drive_at_doff. -/
def tellDriveAtDoff (s : State) : State :=
  if s.driveAtDoffFact = s.dc.driveAtDoff then s
  else testReadiness (s.modDoff fun d => { d with driveAtDoff := s.driveAtDoffFact })

/-- The Piecing Dispatcher tells a change of carriages_clear. The no of power-on, where its fact is present already, counts as
such a change (log entry 16). -/
def tellCarriagesClear (s : State) : State :=
  if s.carriagesClearFact = s.dc.carriagesClear then s else testReadiness (hearCarriages s)

/-- The Doff Controller is told of its two facts. -/
def tellDoff (s : State) : State := tellCarriagesClear (tellDriveAtDoff s)

/-- What an event that may change channels or the drive ends with: the channels left in the condition of R70 offer,
and the Doff Controller is told (log entry 35). -/
def conclude (s : State) : State := tellDoff (offerAll s)

/-! ### The doffer (R96, R102) -/

def takeReady (s : State) : State :=
  if s.dc.state == .nearFull || s.dc.state == .full then testReadiness (s.modDoff fun d => { d with dofferReady := true })
  else s

def takeDoffDone (s : State) : State :=
  if s.dc.state == .doffing then enterSettle (s.modDoff fun d => { d with doffTimer := none }) else s

def takeDofferFault (s : State) : State :=
  let s1 := s.modDoff fun d => { d with dofferReady := false }
  if s.dc.state == .doffing then enterDoffFault .doffing .dofferFault s1 else s1

/-- The doffer unit leaves ONLINE. -/
def loseDoffer (s : State) : State :=
  let s1 := s.modDoff fun d => { d with dofferReady := false }
  if s.dc.state == .doffing then enterDoffFault .doffing .dofferOffline s1 else s1

/-! ### The close (R93, R94, R103, R104) -/

/-- A frame in UNCONFIGURED with an active article enters BUILD. -/
def leaveUnconfigured (s : State) : State :=
  if s.dc.state == .unconfigured && s.dc.active.isSome then
    enterBuild (s.modDoff fun d => { d with delivered := 0, deferExt := 0, deferTaken := false })
  else s

/-- A counted settle close. -/
def advanceSettle (s : State) : State :=
  let n := satAdd 15 s.dc.settleCount 1
  if s.thresholds.settleSweeps ≤ n then
    if s.dc.settlePaused = some true then
      (resumeSpindles s).modDoff fun d => { d with settlePaused := some false, settleCount := 0 }
    else enterRamp (s.modDoff fun d => { d with settleCount := n })
  else s.modDoff fun d => { d with settleCount := n }

/-- The Doff Controller at step 7 of a side's close. -/
def doffAtClose (sd : Side) (s : State) : State :=
  let s1 := leaveUnconfigured s
  if sd = s.countingSide then
    match s.dc.state with
    | .build | .nearFull => testLength s1
    | .ramp => testRamp s1
    | .settle => if s.thresholds.pMin ≤ (s.lengthSide sd).lastP then advanceSettle s1 else s1
    | _ => s1
  else s1

/-! ### Timers and the panel line (R95, R97, R98, R102) -/

def expireStop (s : State) : State :=
  if s.dc.stopTimer.isSome && s.dc.state == .full then enterDoffFault .full .stopTimeout s else s

def expireClear (s : State) : State :=
  if s.dc.clearTimer.isSome && s.dc.state == .full then
    clearCarriages (s.modDoff fun d => { d with clearTimer := none })
  else s

def expireDoff (s : State) : State :=
  if s.dc.doffTimer.isSome && s.dc.state == .doffing then enterDoffFault .doffing .doffTimeout s else s

/-- DOFF_NOW or a DOFF_CALL edge in BUILD or NEAR_FULL (R95). -/
def callDoff (s : State) : State :=
  match s.dc.state with
  | .build => enterFull (enterNearFull s)
  | .nearFull => enterFull s
  | _ => s

/-- The debounced DOFF_CALL level changes: a rising edge is handed to the Doff Controller (R95, R144). -/
def setDoffCall (level : Bool) (s : State) : State :=
  let s1 := setLevel .doffCall level s
  if level && !s.dcu.lines.doffCall then callDoff s1 else s1

/-! ### Meanings -/

/-- STOP_TIMER_EXPIRY (R97). -/
def execStopTimerExpiry (s : State) : Host.Outcome State Fault Refusal := .next (finish (conclude (expireStop s)))

/-- CLEAR_TIMER_EXPIRY (R98). -/
def execClearTimerExpiry (s : State) : Host.Outcome State Fault Refusal := .next (finish (conclude (expireClear s)))

/-- DOFF_TIMER_EXPIRY (R102). -/
def execDoffTimerExpiry (s : State) : Host.Outcome State Fault Refusal := .next (finish (conclude (expireDoff s)))

/-- DOFF_CALL (R95, R144). -/
def execDoffCall (level : Bool) (s : State) : Host.Outcome State Fault Refusal :=
  .next (finish (conclude (setDoffCall level s)))

/-- SETTLE_SWEEPS_REACHED (R103): the counted settle close that brings settle_count to settle_sweeps (log entry 2). -/
def execSettleSweepsReached (s : State) : Host.Outcome State Fault Refusal :=
  .next (finish (if s.dc.state == .settle && s.thresholds.settleSweeps ≤ s.dc.settleCount + 1 then
    conclude (advanceSettle s) else s))

/-- JOB_TIMER_EXPIRY (R80). -/
def execJobTimerExpiry (channel : Nat) (s : State) : Host.Outcome State Fault Refusal :=
  .next (finish (conclude (expireJob channel s)))

/-- CANCEL_TIMER_EXPIRY (R79). -/
def execCancelTimerExpiry (channel : Nat) (s : State) : Host.Outcome State Fault Refusal :=
  .next (finish (conclude (expireCancel channel s)))

/-- OFFER_WITHDRAWN (R72): the offer's third poll without an ACCEPT (log entry 2). -/
def execOfferWithdrawn (channel : Nat) (s : State) : Host.Outcome State Fault Refusal :=
  .next (finish (if (s.channel channel).state == .offered && 2 ≤ (s.channel channel).offerPolls.getD 0 then
    conclude (countOfferPoll channel s) else s))

end Sys2Proof.Machine
end

