-- ==== Sys2Proof/Machine/Bus.lean ====
section
/-! DEFINITION. The Service Bus Master (chapter 9): the poll cycle (R161, R162), the pass-through slot (R165, R167,
R168), a unit's states (R160, R163), the handling of an answer (R164, R166) with the carriage's DONE (R74, R79), and
the meanings of the bus: the cycle's start, the answers and their messages, the missed answers, the limits. -/

namespace Sys2Proof

/-- The code of a unit's message (11.5). -/
def UnitMsg.code : UnitMsg → Nat
  | .accept _ => 0x41
  | .done _ _ => 0x42
  | .position _ _ => 0x43
  | .status _ => 0x44
  | .ready => 0x45
  | .doffDone => 0x46
  | .fault => 0x47
  | .actual _ _ _ _ => 0x48
  | .changerDone _ => 0x49
  | .changerFailed _ => 0x4A
  | .passReply _ _ => 0x4B
  | .other n => n

end Sys2Proof

namespace Sys2Proof.Machine

/-! ### The pass-through slot (R165, R167, R168) -/

/-- The message that carries a pass-through request. -/
def PassRequest.msg (r : PassRequest) : BusMsg :=
  match r.kind with
  | .read n => .passRead r.register n
  | .write d => .passWrite r.register d

/-- The request code of a pass-through (11.5). -/
def PassRequest.code (r : PassRequest) : Nat :=
  match r.kind with
  | .read _ => 0x4A
  | .write _ => 0x4B

def setPass (r : Option PassRequest) (s : State) : State := s.modSbm fun b => { b with pass := r }

/-- A WAITING request enters its unit's slot where the slot is empty, and becomes CARRIED. -/
def enterPass (s : State) : State :=
  match s.sbm.pass with
  | some r =>
    if r.polls.isNone && (s.unit r.addr).slot.isNone then
      setPass (some { r with polls := some 0 }) (s.modUnit r.addr fun u => { u with slot := some r.msg, carried := false })
    else s
  | none => s

/-- A request ends: it leaves the unit's slot, the pass-through slot becomes FREE, and the reply is made. -/
def endPass (r : PassRequest) (c : ReplyCode) (d : ReplyData) (s : State) : State :=
  let s1 := s.modUnit r.addr fun u => if r.polls.isSome ∧ u.slot = some r.msg then u.retire else u
  reply r.src r.tag r.code c d (setPass none s1)

/-- A request for a unit that leaves ONLINE ends with UNIT_OFFLINE. -/
def endPassOffline (a : Nat) (s : State) : State :=
  match s.sbm.pass with
  | some r => if r.addr = a then endPass r .unitOffline (.unitRegister r.addr r.register) s else s
  | none => s

/-- A poll that carried the request is counted; the third without a reply ends it (R168). -/
def countPassPoll (x : Exchange) (s : State) : State :=
  match s.sbm.pass with
  | some r =>
    match r.polls with
    | some n =>
      if x.addr = r.addr ∧ !x.probe ∧ x.msg = some r.msg then
        if 3 ≤ n + 1 then endPass { r with polls := some 3 } .timeout (.unitRegister r.addr r.register) s
        else setPass (some { r with polls := some (n + 1) }) s
      else s
    | none => s
  | none => s

/-! ### The states of a unit (R160, R163) -/

/-- The block of a role is told that its unit has left ONLINE. -/
def tellLost (a : Nat) (r : Role) (s : State) : State :=
  match r with
  | .carriage => (s.channelsAt a).foldl (fun x c => loseUnit c x) s
  | .doffer => loseDoffer s
  | .drive => startGrace s
  | .creelChanger => loseChanger s
  | .none => s

/-- The block of a role is told that its unit has become ONLINE. -/
def tellOnline (a : Nat) (r : Role) (s : State) : State :=
  match r with
  | .carriage => (s.channelsAt a).foldl (fun x c => regainUnit c x) s
  | .drive => driveReturns s
  | .creelChanger => placeSingle s
  | _ => s

/-- The UNIT_STATE report of a change from state `old`. -/
def reportUnit (a : Nat) (old : UnitState) (s : State) : State :=
  postEvent (.unitState a (s.unit a).role old (s.unit a).state (s.unit a).missedTotal) s

/-- The messages of a carriage or of the creel changer that its unit's passing to OFFLINE drops, in the slot and
waiting (R68, R127, R163, log entry 36). -/
def BusUnit.dropOffline (u : BusUnit) : BusUnit :=
  if u.role = .carriage ∨ u.role = .creelChanger then { u with slot := none, carried := false, waiting := [] } else u

/-- What a unit's leaving ONLINE brings (R163), its state already changed. -/
def leftOnline (a : Nat) (s : State) : State :=
  let s1 := (endPassOffline a s).modUnit a fun u => { u with answer := none }
  (tellLost a (s1.unit a).role s1).modUnit a BusUnit.dropOffline

/-- A unit becomes OFFLINE. -/
def goUnitOffline (a : Nat) (s : State) : State :=
  reportUnit a (s.unit a).state (leftOnline a (s.modUnit a fun u => { u with state := .offline }))

/-- A UNITS write changes the role of a row (R160). The removal of the DRIVE role starts the grace timer whatever the
unit's state is (R141, R160). The messages that wait for the slot are dropped with the one in it (DESIGN CHOICE, log
entry 69). -/
def changeRole (a : Nat) (r : Role) (s : State) : State :=
  let old := s.unit a
  if old.role = r then s
  else
    let s1 := if old.state = .online then leftOnline a (s.modUnit a fun u => { u with state := .offline })
      else if old.role = .drive then startGrace s else s
    let s2 := (endPassOffline a s1).modUnit a fun u =>
      { u with role := r, state := if r = .none then .absent else .offline, missedPolls := 0,
               slot := none, carried := false, waiting := [], answer := none }
    let s3 := (s2.channelsAt a).foldl (fun x c => bindChannel c x) s2
    reportUnit a old.state (if old.role = .creelChanger then emptySingles s3 else s3)

/-! ### The poll cycle (R161, R162) -/

/-- A poll or probe begins: what it carries is what the unit's record and the Drive Ceiling Unit hold now. -/
def beginExchange (a : Nat) (probe : Bool) (s : State) : State :=
  let u := s.unit a
  let x : Exchange :=
    { addr := a
      probe := probe
      msg := if probe then none else u.slot
      answer := if probe then none else u.answer
      ceiling := if u.role = .drive then some s.ceilingPart else none }
  let s1 := if probe then s else s.modUnit a fun v => { v with carried := v.slot.isSome }
  s1.modSbm fun b => { b with current := some x }

/-- The next exchange of the cycle begins, or the cycle has ended. -/
def nextExchange (s : State) : State :=
  match s.sbm.exchanges with
  | (a, probe) :: rest => beginExchange a probe (s.modSbm fun b => { b with exchanges := rest })
  | [] => s.modSbm fun b => { b with current := none }

/-- The cycle's list of exchanges: the drive first, then ascending addresses; OFFLINE units in cycle 0 only. -/
def State.cycleExchanges (s : State) : List (Nat × Bool) :=
  let drives := busAddresses.filter fun a => (s.unit a).role == .drive
  let others := busAddresses.filter fun a => (s.unit a).role != .drive
  (drives ++ others).filterMap fun a =>
    match (s.unit a).state with
    | .online => some (a, false)
    | .offline => if s.sbm.cycle = 0 then some (a, true) else none
    | .absent => none

/-- The start of a poll cycle. -/
def startCycle (s : State) : State :=
  let s1 := enterPass (s.modSbm fun b =>
    { b with cycle := if b.begun then (b.cycle + 1) % 10 else 0, begun := true, cycleTimer := 100 })
  nextExchange (s1.modSbm fun b => { b with exchanges := s1.cycleExchanges })

/-! ### The carriage's report (R74, R76, R79) -/

/-- The request that an outcome makes to the Spindle Table or the Creel Controller. -/
def actOnOutcome (p : Nat) (o : CarriageOutcome) (s : State) : State :=
  match o with
  | .pieced => (jobPieced p s).modRecord (sideOf p) fun x => { x with piecedCarriage := satAdd max32 x.piecedCarriage 1 }
  | .failed | .aborted => requeue p (jobFailed p s)
  | .noRoving => takeNoRoving p s
  | .blocked => jobBlocked p s

/-- The end of a BUSY channel's job by a DONE with the current seq (R74). -/
def endJob (c : Nat) (o : CarriageOutcome) (s : State) : State :=
  let x := s.channel c
  let p := x.job.getD 0
  let s1 := actOnOutcome p o (s.setChannel c { x with jobTimer := none, seq := !x.seq, job := none })
  becomeIdle c true
    (postEvent (.jobEnd c p (.outcome o) (s1.spindle p).state (s1.spindle p).attempts) s1)

/-- The DONE of R76, with block (R74, R79). -/
def takeDone (c : Nat) (seq : Bool) (o : CarriageOutcome) (s : State) : AnswerCode × State :=
  let x := s.channel c
  match x.state with
  | .busy => if seq = x.seq then (.ack, endJob c o s) else (if x.block then .refused else .ack, s)
  | .cancelling =>
    if seq = x.seq then (.refused, s)
    else (if x.cancelCause = some .cancelled then .ack else .late, becomeIdle c false s)
  | .idle | .offered => (if x.block then .refused else if seq = x.seq then .late else .ack, s)
  | .offline => (.refused, s)

/-! ### Messages handed to the blocks (R164) -/

def setAnswer (a : Nat) (c : Option AnswerCode) (s : State) : State := s.modUnit a fun u => { u with answer := c }

/-- The channel a carriage's message goes to: the enabled row that names the address, else the lowest row that does. -/
def State.routeChannel (s : State) (a : Nat) : Option Nat :=
  match channelNumbers.find? (fun c => (s.zone c).enabled && (s.zone c).address == some a) with
  | some c => some c
  | none => channelNumbers.find? fun c => (s.zone c).address == some a

/-- The Piecing Dispatcher takes a message for a channel. A message that R76 and R77 do not list is REFUSED under
block and has a free answer otherwise (log entry 21). -/
def carriageMessage (c : Nat) (m : UnitMsg) (s : State) : Option AnswerCode × State :=
  match m with
  | .accept q => let r := takeAccept c q s; (some r.1, r.2)
  | .done q o => let r := takeDone c q o s; (some r.1, r.2)
  | .position p d => let r := takePosition c p d s; (some r.1, r.2)
  | .status b => let r := takeStatus c b s; (some r.1, r.2)
  | m => (if (s.channel c).block then some .refused else Config.answerToUnlisted .carriage m.code, s)

/-- The Doff Controller takes a message of the doffer; it answers each with ACK (R96). -/
def dofferMessage (m : UnitMsg) (s : State) : State :=
  match m with
  | .ready => takeReady s
  | .doffDone => takeDoffDone s
  | .fault => takeDofferFault s
  | _ => s

/-- A message is handed to the block of its unit's role, and the block's answer is placed in the answer field. -/
def handMessage (x : Exchange) (m : UnitMsg) (s : State) : State :=
  match (s.unit x.addr).role with
  | .carriage =>
    match s.routeChannel x.addr with
    | some c => let r := carriageMessage c m s; setAnswer x.addr r.1 r.2
    | none => setAnswer x.addr (some .refused) s
  | .doffer => setAnswer x.addr (some .ack) (dofferMessage m s)
  | .drive =>
    match m with
    | .actual mode st ad f =>
      setAnswer x.addr (Config.answerToUnlisted .drive m.code) (takeActual x.ceiling ⟨mode, st, ad, f⟩ s)
    | _ => setAnswer x.addr (some .refused) s
  | .creelChanger =>
    match m with
    | .changerDone p => setAnswer x.addr (some .ack) (takeChangerDone p s)
    | .changerFailed p => setAnswer x.addr (some .ack) (takeChangerFailed p s)
    | m => setAnswer x.addr (Config.answerToUnlisted .creelChanger m.code) s
  | .none => s

/-- A pass-through reply ends the request that this poll carried, and is discarded otherwise (R164, R168). The data of a
read are returned whole, more than 16 bytes too (DESIGN CHOICE, log entry 70). -/
def takePassReply (x : Exchange) (status : Byte) (data : List Byte) (s : State) : State :=
  match s.sbm.pass with
  | some r =>
    if x.addr = r.addr ∧ !x.probe ∧ r.polls.isSome ∧ x.msg = some r.msg then
      endPass r .ok (.pass status (match r.kind with | .read _ => data | .write _ => [])) s
    else s
  | none => s

def takeMessage (x : Exchange) (m : Option UnitMsg) (s : State) : State :=
  match m with
  | some (.passReply st d) => takePassReply x st d s
  | some m => handMessage x m s
  | none => s

/-! ### The outcome of an exchange (R162 to R164, R166) -/

/-- The cause flag a good answer reports (R166). -/
def takeCauseFlag (a : Nat) (cause : Bool) (s : State) : State :=
  if (s.unit a).causeFlag = cause then s
  else
    let s1 := s.modUnit a fun u => { u with causeFlag := cause }
    postEvent (.unitCause a (s1.unit a).role cause) (if cause then raiseAlert .unitCause (some a) s1 else s1)

/-- After a good answer to a poll, the answer field is emptied and the message the poll carried, unless it is a
pass-through, leaves the slot as delivered (R162). -/
def BusUnit.delivered (m : Option BusMsg) (u : BusUnit) : BusUnit :=
  let u1 := { u with answer := none }
  match m with
  | some (.passRead _ _) | some (.passWrite _ _) | none => u1
  | some b => if u1.carried && u1.slot == some b then u1.retire else u1

/-- The unit's state after a good answer (R163). -/
def goodState (x : Exchange) (s : State) : State :=
  match (s.unit x.addr).state with
  | .online => s.modUnit x.addr fun u => { u with missedPolls := 0 }
  | .offline =>
    if x.probe then
      let s1 := s.modUnit x.addr fun u => { u with state := .online, missedPolls := 0 }
      reportUnit x.addr .offline (tellOnline x.addr (s1.unit x.addr).role s1)
    else s
  | .absent => s

/-- The poll carried the channel's JOB or follows the poll that did (R72). -/
def State.followsJob (s : State) (x : Exchange) (c : Nat) : Bool :=
  let ch := s.channel c
  !x.probe && (0 < ch.offerPolls.getD 0 ||
    match ch.job with
    | some p => x.msg == some (.job c p ch.seq)
    | none => false)

/-- The Piecing Dispatcher is told of the poll's outcome (R72, R164). -/
def countPolls (x : Exchange) (s : State) : State :=
  countPassPoll x ((s.channelsAt x.addr).foldl (fun y c => if y.followsJob x c then countOfferPoll c y else y) s)

/-- A good answer. -/
def takeGoodAnswer (x : Exchange) (cause : Bool) (m : Option UnitMsg) (s : State) : State :=
  let s1 := goodState x (takeCauseFlag x.addr cause s)
  let s2 := if x.probe then s1 else s1.modUnit x.addr (BusUnit.delivered x.msg)
  nextExchange (conclude (countPolls x (takeMessage x m s2)))

/-- The unit's state after a missed answer (R163). -/
def missedState (a : Nat) (s : State) : State :=
  let s1 := s.modUnit a fun u => { u with missedTotal := satAdd max16 u.missedTotal 1 }
  if (s1.unit a).state = .online then
    let s2 := s1.modUnit a fun u => { u with missedPolls := satAdd 3 u.missedPolls 1 }
    if (s2.unit a).missedPolls = 3 then goUnitOffline a s2 else s2
  else s1

/-- A missed answer. -/
def takeMissedAnswer (x : Exchange) (s : State) : State :=
  nextExchange (conclude (countPolls x (missedState x.addr s)))

/-- An answer that passes its check: it is good where it carries the address of the unit polled, and missed where it
does not (R163). With no exchange in progress nothing happens (log entry 3). -/
def takeAnswer (a : Nat) (cause : Bool) (m : Option UnitMsg) (s : State) : State :=
  match s.sbm.current with
  | some x => if a = x.addr then takeGoodAnswer x cause m s else takeMissedAnswer x s
  | none => s

/-- No good answer comes to the exchange in progress. -/
def missAnswer (s : State) : State :=
  match s.sbm.current with
  | some x => takeMissedAnswer x s
  | none => s

/-! ### Meanings -/

/-- POLL_CYCLE_START (R161). -/
def execPollCycleStart (s : State) : Host.Outcome State Fault Refusal := .next (finish (startCycle s))

/-- GOOD_ANSWER (R163): an answer frame as it arrives; one that fails its check is a missed answer (R183). -/
def execGoodAnswer (frame : List Byte) (s : State) : Host.Outcome State Fault Refusal :=
  .next (finish (match parseAnswer frame with
    | some (a, cause, m) => takeAnswer a cause m s
    | none => missAnswer s))

/-- MISSED_ANSWER (R163). -/
def execMissedAnswer (s : State) : Host.Outcome State Fault Refusal := .next (finish (missAnswer s))

/-- MISSED_POLLS_LIMIT (R163): the missed poll that takes an ONLINE unit OFFLINE (log entry 2). -/
def execMissedPollsLimit (addr : Nat) (s : State) : Host.Outcome State Fault Refusal :=
  .next (finish (if (s.unit addr).state == .online && 2 ≤ (s.unit addr).missedPolls then
    let s1 := conclude (missedState addr s)
    if (match s.sbm.current with | some x => x.addr == addr | none => false) then nextExchange s1 else s1
    else s))

/-- ACCEPT (R73, R76). -/
def execAccept (addr : Nat) (cause seq : Bool) (s : State) : Host.Outcome State Fault Refusal :=
  .next (finish (takeAnswer addr cause (some (.accept seq)) s))

/-- DONE (R74, R76, R79). -/
def execDone (addr : Nat) (cause seq : Bool) (outcome : CarriageOutcome) (s : State) :
    Host.Outcome State Fault Refusal :=
  .next (finish (takeAnswer addr cause (some (.done seq outcome)) s))

/-- POSITION (R77). -/
def execPosition (addr : Nat) (cause : Bool) (spindle : Nat) (direction : Direction) (s : State) :
    Host.Outcome State Fault Refusal :=
  .next (finish (takeAnswer addr cause (some (.position spindle direction)) s))

/-- STATUS (R77). -/
def execStatus (addr : Nat) (cause ready : Bool) (s : State) : Host.Outcome State Fault Refusal :=
  .next (finish (takeAnswer addr cause (some (.status ready)) s))

/-- READY (R96). -/
def execReady (addr : Nat) (cause : Bool) (s : State) : Host.Outcome State Fault Refusal :=
  .next (finish (takeAnswer addr cause (some .ready) s))

/-- DOFF_DONE (R102). -/
def execDoffDone (addr : Nat) (cause : Bool) (s : State) : Host.Outcome State Fault Refusal :=
  .next (finish (takeAnswer addr cause (some .doffDone) s))

/-- FAULT of the doffer (R96, R102). -/
def execFault (addr : Nat) (cause : Bool) (s : State) : Host.Outcome State Fault Refusal :=
  .next (finish (takeAnswer addr cause (some .fault) s))

/-- ACTUAL (R138 to R140). -/
def execActual (addr : Nat) (cause : Bool) (mode : CeilingMode) (stopped atDoff driveFault : Bool) (s : State) :
    Host.Outcome State Fault Refusal :=
  .next (finish (takeAnswer addr cause (some (.actual mode stopped atDoff driveFault)) s))

/-- DONE of the creel changer (R127). -/
def execCreelChangerDone (addr : Nat) (cause : Bool) (spindle : Nat) (s : State) : Host.Outcome State Fault Refusal :=
  .next (finish (takeAnswer addr cause (some (.changerDone spindle)) s))

/-- FAILED of the creel changer (R127). -/
def execCreelChangerFailed (addr : Nat) (cause : Bool) (spindle : Nat) (s : State) :
    Host.Outcome State Fault Refusal :=
  .next (finish (takeAnswer addr cause (some (.changerFailed spindle)) s))

/-- A unit's pass-through reply (R168). -/
def execPassThroughReply (addr : Nat) (cause : Bool) (status : Byte) (data : List Byte) (s : State) :
    Host.Outcome State Fault Refusal :=
  .next (finish (takeAnswer addr cause (some (.passReply status data)) s))

/-- PASS_TIMEOUT (R168): the third poll that carried the request without a reply (log entry 2). -/
def execPassTimeout (s : State) : Host.Outcome State Fault Refusal :=
  .next (finish (match s.sbm.pass with
    | some r => match r.polls with
      | some n => if 2 ≤ n then
          endPass { r with polls := some 3 } .timeout (.unitRegister r.addr r.register) s else s
      | none => s
    | none => s))

end Sys2Proof.Machine
end

