-- ==== Sys2Proof/Machine/Length.lean ====
section
/-! DEFINITION. The Length Unit (chapter 3): the pulse counter (R44), the side's sample point (R45), the delivered
length (R47, R48), the cop credit within the cop cap (R49 to R51), the roving charge with its waste (R52 to R55), the
preset (R59), and the meaning of an encoder pulse. -/

namespace Sys2Proof.Machine

/-! ### Pulses (R44 to R46) -/

/-- The side's pulse sample point (R45). -/
def LengthSide.sample (pulses : PulseWord) (x : LengthSide) : LengthSide :=
  { x with
    held := match x.lastSample with
      | some l => satAdd max16 x.held (pulses - l).toNat
      | none => x.held
    lastSample := some pulses }

def samplePoint (sd : Side) (s : State) : State := s.modLength sd (LengthSide.sample s.lu.pulses)

/-- A side brought to IDLE (R46, R60). -/
def idleLength (sd : Side) (s : State) : State :=
  s.modLength sd fun _ => {}

/-! ### Delivered length (R47, R48) -/

/-- The delivered length of a close and the new carry, with the held count used up. -/
def LengthSide.deliver (mppQ : Nat) (x : LengthSide) : LengthSide :=
  let q := x.carry + x.held * mppQ
  { x with held := 0, carry := q % 1024, lastP := x.held, lastD := q / 1024 }

/-- The frame delivered length since doff advances at closes of the counting side, except in UNCONFIGURED. -/
def advanceDelivered (sd : Side) (d : Nat) (s : State) : State :=
  if sd = s.countingSide ∧ s.dc.state ≠ .unconfigured then
    s.modDoff fun x => { x with delivered := satAdd max32 x.delivered d }
  else s

/-! ### Cop credit (R49 to R51) -/

/-- The credit within the cop cap: the smaller of `d` and the headroom. -/
def Spindle.creditOf (frame d : Nat) (r : Spindle) : Nat := min d (frame - (r.copMm + r.provisionalMm))

/-- The states whose credit goes to cop_mm, and whose evaluable sweeps count as running (R49, R147). -/
def SpindleState.spins : SpindleState → Bool
  | .running | .slipping | .verify => true
  | _ => false

/-- The credit of one spindle at step 4. -/
def Spindle.credit (frame d : Nat) (r : Spindle) : Spindle :=
  if r.state.spins then { r with copMm := satAdd max32 r.copMm (r.creditOf frame d) }
  else if r.state = .suspect then { r with provisionalMm := satAdd max16 r.provisionalMm (r.creditOf frame d) }
  else r

/-! ### Roving charge (R52 to R55) -/

/-- The bobbin is charged at the close: its state, its spindle's prior flag. -/
def Bobbin.isCharged (stopped : Bool) (b : Bobbin) : Bool :=
  !stopped && (b.state == .loaded || b.state == .emptyEst)

/-- The charge of one bobbin (R53, R54), by the post-classification state of its spindle. -/
def Bobbin.charge (draft d : Nat) (st : SpindleState) (b : Bobbin) : Bobbin :=
  let r := b.remainder + d * 100
  let remaining := b.remaining - r / draft
  { b with
    remaining := remaining
    remainder := r % draft
    state := if b.state = .loaded ∧ remaining = 0 ∧ (st.spins ∨ st = .suspect) then .emptyEst else b.state }

/-- The states whose charge is waste (R55). -/
def SpindleState.wastes : SpindleState → Bool
  | .down | .red | .rovingOut | .unknown | .masked => true
  | _ => false

/-- The prior roving-stop map's flag of a position. -/
def State.priorFlag (s : State) (p : Nat) : Bool :=
  (s.railOf (sideOf p)).priorMap.getD (p - (sideOf p).base) false

/-! ### Steps 4 and 5 of the close -/

/-- The totals handed to the Shift Accounting Unit (R57). -/
structure CloseTotals where
  d : Nat
  credit : Nat
  waste : Nat
deriving DecidableEq, Repr

/-- A position is an installed one of the side. -/
def State.installedOn (s : State) (sd : Side) (p : Nat) : Bool := sideOf p == sd && s.installed p

/-- Step 4: delivered length and cop credit; the state after it and the millimetres added to cops. -/
def deliverLength (sd : Side) (s : State) : State × Nat :=
  let s1 := s.modLength sd (LengthSide.deliver s.thresholds.mppQ)
  let d := (s1.lengthSide sd).lastD
  let s2 := advanceDelivered sd d s1
  let frame := s2.dc.delivered
  let credited : State :=
    { s2 with spindles := tmap (fun p r => if s2.installedOn sd p then r.credit frame d else r) s2.spindles }
  (credited, ((s2.positions sd).map fun p => (credited.spindle p).copMm - (s2.spindle p).copMm).sum)

/-- Step 5: the roving charge, and the millimetres of waste. -/
def chargeRoving (sd : Side) (s : State) : State × Nat :=
  match s.dc.active with
  | none => (s, 0)
  | some a =>
    let d := (s.lengthSide sd).lastD
    let one (p : Nat) (b : Bobbin) : Bobbin :=
      if s.installedOn sd p && b.isCharged (s.priorFlag p) then b.charge a.draftX100 d (s.spindle p).state else b
    let charged : State := { s with bobbins := tmap one s.bobbins }
    (charged, ((s.positions sd).map fun p =>
      if (s.spindle p).state.wastes then (s.bobbin p).remaining - (charged.bobbin p).remaining else 0).sum)

/-- Steps 4 and 5 together; `moved` is the provisional length that step 3 moved into cops (R57). -/
def lengthAtClose (sd : Side) (moved : Nat) (s : State) : State × CloseTotals :=
  let (s1, credit) := deliverLength sd s
  let (s2, waste) := chargeRoving sd s1
  (s2, ⟨(s2.lengthSide sd).lastD, credit + moved, waste⟩)

/-! ### Build preset (R59) -/

/-- A spindle record brought within the given frame length. -/
def Spindle.cap (length : Nat) (r : Spindle) : Spindle :=
  { r with copMm := min r.copMm length, provisionalMm := min r.provisionalMm (length - min r.copMm length) }

/-- The effect of an accepted PRESET_BUILD. -/
def presetBuild (length : Nat) (s : State) : State :=
  let s1 := s.modDoff fun d => { d with delivered := length }
  testLength { s1 with spindles := tmap (fun _ r => r.cap length) s1.spindles }

/-! ### Meaning -/

/-- ENCODER_PULSE (R44). -/
def execEncoderPulse (s : State) : Host.Outcome State Fault Refusal :=
  .next (finish { s with lu := { s.lu with pulses := s.lu.pulses + 1 } })

end Sys2Proof.Machine
end

