-- ==== Sys2Proof/Machine/Rail.lean ====
section
/-! DEFINITION. The Rail Controller (chapter 1): the sweep start (R3 to R5), head reply blocks (R6, R7), the head
records and the rail state (R10 to R13), the observations (R14), the side reset and the bringing to IDLE (R15, R16)
with what they ask of the other blocks, and the meanings of the rail's rows. -/

namespace Sys2Proof.Machine

/-! ### The sweep start (R3 to R5) -/

/-- The current roving-stop map of a side (R5). -/
def State.composeMap (s : State) (sd : Side) : List Bool := (s.positions sd).map s.rovingStopFlag

/-- The rail fault indication of a side's frames (R4). -/
def RailState.indicates : RailState → Bool
  | .degraded | .fault => true
  | _ => false

/-- A sweep start that carries the given sweep number and leaves the given prior map: the frame goes out, the sample
point is signalled, the timers are loaded and the window opens with every head unanswered. -/
def beginSweep (sd : Side) (number : BitVec 4) (prior : List Bool) (s : State) : State :=
  let map := s.composeMap sd
  let s1 := s.modRail sd fun r =>
    { r with
      sweepNumber := number
      priorMap := prior
      currentMap := map
      lastFrame := some ⟨sd, number, r.state.indicates, map⟩
      sweepTimer := some s.thresholds.sweepMs
      windowTimer := some (s.thresholds.sweepMs - 100)
      windowOpen := true
      window := r.heads.map fun _ => .unanswered }
  samplePoint sd s1

/-- The sweep start of R3. A sweep timer expires in the rail gap; an expiry that a side reset has overtaken finds the
window open that the reset opened, and starts nothing (R18). -/
def sweepStart (sd : Side) (s : State) : State :=
  if s.configured sd && !(s.railOf sd).windowOpen then
    beginSweep sd ((s.railOf sd).sweepNumber + 1) (s.railOf sd).currentMap s
  else s

/-! ### Head reply blocks (R6, R7) -/

/-- The outcome of R6 for a block that arrives while the window is open. -/
def Rail.judge (block : List Byte) (r : Rail) : Rail :=
  match parseHeadBlock block with
  | none => { r with counters := { r.counters with badCheck := satAdd max16 r.counters.badCheck 1 } }
  | some b =>
    if r.installed / 16 ≤ b.head then
      { r with counters := { r.counters with stray := satAdd max16 r.counters.stray 1 } }
    else if b.echo = (r.sweepNumber - 1).toNat then
      { r with counters := { r.counters with late := satAdd max16 r.counters.late 1 } }
    else if b.echo ≠ r.sweepNumber.toNat then
      { r with counters := { r.counters with wrongEcho := satAdd max16 r.counters.wrongEcho 1 } }
    else if r.window.getD b.head .unanswered ≠ .unanswered then
      { r with window := r.window.set b.head .errored,
               counters := { r.counters with duplicate := satAdd max16 r.counters.duplicate 1 } }
    else { r with window := r.window.set b.head (.answered b.fields) }

/-- A head reply block arrives on a side's rail. -/
def Rail.receive (block : List Byte) (r : Rail) : Rail :=
  if r.installed = 0 then r
  else if r.windowOpen then r.judge block
  else { r with counters := { r.counters with late := satAdd max16 r.counters.late 1 } }

/-! ### Head records (R10) -/

/-- The head record after a sweep in which the head was good, or errored. -/
def Head.update (good : Bool) (h : Head) : Head :=
  match h.state with
  | .ok => if good then { h with erroredRun := 0 } else { h with state := .errored, erroredRun := 1 }
  | .errored =>
    if good then { h with state := .ok, erroredRun := 0 }
    else if 4 ≤ h.erroredRun + 1 then { state := .lost, erroredRun := 4, goodRun := 0 }
    else { h with erroredRun := h.erroredRun + 1 }
  | .lost =>
    if good then
      if 2 ≤ h.goodRun + 1 then { state := .ok, erroredRun := 0, goodRun := 0 }
      else { h with erroredRun := 0, goodRun := h.goodRun + 1 }
    else { h with erroredRun := satAdd 4 h.erroredRun 1, goodRun := 0 }

/-- The HEAD_STATE report of a head that enters or leaves LOST. -/
def reportHead (sd : Side) (h : Nat) (old new : Head) (s : State) : State :=
  if (old.state == .lost) != (new.state == .lost) then
    postEvent (.headState sd h new.state (s.railOf sd).sweepIndex) s
  else s

/-- Reports for the heads of two lists of records, from index `k` on: the lower head first (DESIGN CHOICE, log entry 75). -/
def reportHeads (sd : Side) : Nat → List Head → List Head → State → State
  | k, o :: os, n :: ns, s => reportHeads sd (k + 1) os ns (reportHead sd k o n s)
  | _, _, _, s => s

/-- The head updates of a close (R10), with their reports. -/
def updateHeads (sd : Side) (s : State) : State :=
  let r := s.railOf sd
  let new := mapFrom (fun i h => h.update (r.window.getD i .unanswered).isGood) 0 r.heads
  reportHeads sd 0 r.heads new (s.modRail sd fun x => { x with heads := new })

/-! ### The rail state (R11 to R13) -/

/-- The condition row of a side's rail fault. -/
def railRow : Side → RowName
  | .a => .railA
  | .b => .railB

/-- A change of the side's rail state and what it brings (R13). The report carries the side's present lost count and sweep
index, also where a reset and no close changes the state (DESIGN CHOICE, log entry 45). -/
def setRailState (sd : Side) (st : RailState) (s : State) : State :=
  let old := (s.railOf sd).state
  if old = st then s
  else
    let s1 := s.modRail sd fun r => { r with state := st }
    let s2 := postEvent (.railState sd old st (s1.railOf sd).lostCount (s1.railOf sd).sweepIndex) s1
    let s3 := if st = .fault then raiseAlert .railFault (some sd.code) s2 else s2
    setCause (railRow sd) (st == .fault) s3

/-- The SYNC and DEGRADED rows of R12. -/
def Rail.nextHealthy (r : Rail) : RailState :=
  if r.faultLimit < r.lostCount then .fault
  else if 3 ≤ r.noGoodRun then .fault
  else if 0 < r.lostCount then .degraded
  else .sync

/-- Leaving HUNT at its eighth close (R11). -/
def Rail.leaveHunt (r : Rail) : RailState :=
  if r.faultLimit < r.lostCount then .fault else if 0 < r.lostCount then .degraded else .sync

/-- The rail state after a close (R11, R12); `allGood` and `someGood` are the window's outcomes. -/
def Rail.nextState (allGood someGood : Bool) (r : Rail) : RailState :=
  match r.state with
  | .idle => .idle
  | .hunt =>
    if allGood then .sync
    else if 3 ≤ r.noGoodRun then .fault
    else if 8 ≤ r.huntCount then r.leaveHunt
    else .hunt
  | .sync | .degraded => r.nextHealthy
  | .fault => if r.lostCount ≤ r.faultLimit && someGood then r.leaveHunt else .fault

/-- The counts beside the state (1.7): the no-good run, and the hunt count in HUNT. Outside HUNT the hunt count keeps its
last value until the side next enters HUNT (DESIGN CHOICE, log entry 63). -/
def Rail.advanceCounts (someGood : Bool) (r : Rail) : Rail :=
  { r with
    noGoodRun := if someGood then 0 else satAdd 3 r.noGoodRun 1
    huntCount := if r.state = .hunt then satAdd 8 r.huntCount 1 else r.huntCount }

/-- The rail state update of a close. -/
def updateRailState (sd : Side) (s : State) : State :=
  let w := (s.railOf sd).window
  let someGood := w.any HeadWindow.isGood
  let s1 := s.modRail sd (Rail.advanceCounts someGood)
  setRailState sd ((s1.railOf sd).nextState (w.all HeadWindow.isGood) someGood) s1

/-! ### Observations (R14) -/

/-- The observation of one spindle, by the first step that applies. `healthy` is step 1 passed, `headOk` step 2;
`field` is the spindle's field of its head's good block. -/
def observe (healthy headOk paused : Bool) (field : SpindleField) (r : Spindle) : Observation :=
  if !healthy || !headOk then .noData
  else if r.mask ≠ .none then .masked
  else if paused then .paused
  else
    match r.override with
    | .forceRun => .forcedRun
    | .forceDown => .forcedDown
    | .none => if field.sensorFault then .sensorFault else .count field.count

/-- The spindle fields held for a head in the window. -/
def Rail.fieldsOf (r : Rail) (h : Nat) : List SpindleField :=
  match r.window.getD h .unanswered with
  | .answered fs => fs
  | _ => []

/-- The observation of a position of a side at its close; `before` is the rail state before the close. -/
def State.observation (s : State) (sd : Side) (before : RailState) (p : Nat) : Observation :=
  let r := s.railOf sd
  let i := p - sd.base
  observe (before == .sync || before == .degraded) ((r.heads.getD (i / 16) {}).state == .ok) s.spindlesPaused
    ((r.fieldsOf (i / 16)).getD (i % 16) ⟨0, false⟩) (s.spindle p)

/-! ### Side reset and IDLE (R15, R16, R43) -/

/-- The spindle records of a side reset (R43): the positions that `reach` names, each to state `st`. A spindle taken out
of ROVING_OUT loses its waiting single change (R116). -/
def resetSpindles (sd : Side) (reach : Nat → Bool) (st : SpindleState) (s : State) : State :=
  resetSideSingles sd { s with spindles := tmap (fun p r => if reach p then r.resetTo st else r) s.spindles }

/-- The rail record after the first part of a reset: HUNT, the heads of the map in force, both maps clear. -/
def Rail.restarted (r : Rail) : Rail :=
  { r with
    huntCount := 0
    noGoodRun := 0
    heads := List.replicate (r.installed / 16) {}
    window := []
    windowOpen := false
    currentMap := []
    priorMap := [] }

/-- A clear roving-stop map of a side. -/
def State.clearMap (s : State) (sd : Side) : List Bool := List.replicate (s.railOf sd).installed false

/-- The side reset of a configured side (R15). `spindles` is the Spindle Table's reset. -/
def resetSideWith (sd : Side) (spindles : State → State) (s : State) : State :=
  let s2 := (setRailState sd .hunt s).modRail sd Rail.restarted
  let s3 := spindles (resetSideChannels sd s2)
  beginSweep sd 0 (s3.clearMap sd) s3

/-- The state a side reset gives the spindles (R43). -/
def State.resetTarget (s : State) : SpindleState := if s.spindlesPaused then .doffPause else .unknown

/-- The side reset of a SIDE_RESET command or a SPINDLE_MAP write. -/
def sideReset (sd : Side) (s : State) : State :=
  if s.configured sd then
    resetSideWith sd (fun x => resetSpindles sd (fun p => x.installedOn sd p) x.resetTarget x) s
  else s

/-- The side reset that a warm restart performs, which reaches every position of the side (R43). -/
def restartSide (sd : Side) (s : State) : State :=
  if s.configured sd then resetSideWith sd (resetSpindles sd (fun p => sideOf p == sd) .unknown) s else s

/-- A configured side is brought to IDLE by a map of no spindles (R16, R46, R67, R86, R136, R153). `s` holds the map of
no spindles already, and `spindles` is the Spindle Table's reset. The RAIL_STATE report comes after the head records are
discarded, so it carries lost count 0 (DESIGN CHOICE, log entry 45). The hunt count and the no-good run become 0 (DESIGN
CHOICE, log entry 64). -/
def bringToIdle (sd : Side) (spindles : State → State) (s : State) : State :=
  let s1 := s.modRail sd fun r =>
    { r.restarted with sweepTimer := none, windowTimer := none, sweepNumber := 0, heads := [], lastFrame := none }
  let s2 := spindles (resetSideChannels sd s1)
  let s3 := setRailState sd .idle s2
  let s4 := setDownLoad sd {} (idleLength sd s3)
  dropRates sd (s4.modShift sd fun x => { x with block := {} })

/-! ### Meanings -/

/-- SWEEP_START (R3). -/
def execSweepStart (side : Side) (s : State) : Host.Outcome State Fault Refusal := .next (finish (sweepStart side s))

/-- HEAD_REPLY_BLOCK (R6, R7). -/
def execHeadReplyBlock (side : Side) (block : List Byte) (s : State) : Host.Outcome State Fault Refusal :=
  .next (finish (s.modRail side (Rail.receive block)))

/-- HEAD_LOST (R10): the fourth errored sweep in a row of an ERRORED head (log entry 2). -/
def execHeadLost (side : Side) (head : Nat) (s : State) : Host.Outcome State Fault Refusal :=
  let h := (s.railOf side).heads.getD head {}
  .next (finish (if h.state == .errored && 3 ≤ h.erroredRun then
    reportHead side head h (h.update false)
      (s.modRail side fun r => { r with heads := r.heads.set head (h.update false) })
    else s))

/-- HUNT_LIMIT (R11): the eighth close of a side in HUNT (log entry 2). -/
def execHuntLimit (side : Side) (s : State) : Host.Outcome State Fault Refusal :=
  .next (finish (if (s.railOf side).state == .hunt && 7 ≤ (s.railOf side).huntCount then
    setRailState side (s.railOf side).leaveHunt
      (s.modRail side fun r => { r with huntCount := satAdd 8 r.huntCount 1 })
    else s))

end Sys2Proof.Machine
end

