-- ==== Sys2Proof/Machine/Shift.lean ====
section
/-! DEFINITION. The Shift Accounting Unit (chapter 8): the counting of a sweep close (R147, R148), the rate block
(R153), the close of a side's shift (R154, R155), and the meanings of SHIFT_CLOSE and of the end of a rate block. -/

namespace Sys2Proof.Machine

/-! ### Counting a close (R147, R148) -/

/-- The states that keep an evaluable observation out of the spindle-sweeps (R147). -/
def SpindleState.outside : SpindleState → Bool
  | .masked | .doffPause | .unknown => true
  | _ => false

/-- The evaluable and the running spindle-sweeps of a close; `ev` says whose observation was evaluable. -/
def State.spindleSweeps (s : State) (sd : Side) (ev : Nat → Bool) : Nat × Nat :=
  let counted := (s.positions sd).filter fun p => ev p && !(s.spindle p).state.outside
  (counted.length, (counted.filter fun p => (s.spindle p).state.spins).length)

/-- The close is counted into a record (R147). -/
def ShiftRecord.countClose (t : CloseTotals) (tex sweepMs evaluable running : Nat) (r : ShiftRecord) : ShiftRecord :=
  { r with
    deliveredMm := satAdd max48 r.deliveredMm t.d
    spunMm := satAdd max48 r.spunMm t.credit
    wasteMm := satAdd max48 r.wasteMm t.waste
    massAcc := satAdd max64 r.massAcc (t.credit * tex)
    evaluable := satAdd max48 r.evaluable evaluable
    evaluableMs := satAdd max64 r.evaluableMs (evaluable * sweepMs)
    running := satAdd max48 r.running running }

/-- The yarn count of the active article, 0 where none is active (R147). -/
def DoffUnit.tex (d : DoffUnit) : Nat := match d.active with | some a => a.texX100 | none => 0

/-- The two per-spindle counters of R148. -/
def Spindle.countSweep (evaluable : Bool) (r : Spindle) : Spindle :=
  let down := r.state == .down || r.state == .piecing || r.state == .red || r.state == .rovingOut
  { r with
    downSweeps := if down then satAdd max16 r.downSweeps 1 else r.downSweeps
    slipSweeps := if evaluable && r.state == .slipping then satAdd max16 r.slipSweeps 1 else r.slipSweeps }

/-! ### The rate block (R153) -/

/-- One close of the block. -/
def RateBlock.advance (ends evaluable ms : Nat) (b : RateBlock) : RateBlock :=
  { count := satAdd 3600 b.count 1
    ends := satAdd max32 b.ends ends
    evaluable := satAdd max32 b.evaluable evaluable
    evaluableMs := satAdd max64 b.evaluableMs ms }

/-- The block's rate; none where no spindle-sweep of it was evaluable. -/
def RateBlock.rate (b : RateBlock) : Option Nat :=
  if b.evaluable = 0 then none else some (b.ends * 3600000000 / b.evaluableMs)

/-- The advance of a side's block, with the rate it hands where it ends. -/
def advanceBlock (sd : Side) (ends evaluable ms : Nat) (s : State) : State × Option Nat :=
  let b := (s.shiftSide sd).block.advance ends evaluable ms
  if s.thresholds.blockSweeps ≤ b.count then (s.modShift sd fun x => { x with block := {} }, b.rate)
  else (s.modShift sd fun x => { x with block := b }, none)

/-! ### Closing a shift (R154, R155) -/

/-- The four shift counters of a spindle return to 0. -/
def Spindle.zeroShift (r : Spindle) : Spindle :=
  { r with endsDown := 0, downSweeps := 0, slipSweeps := 0, sensorFaults := 0 }

/-- The record that closing a side's shift now gives. -/
def State.closingRecord (s : State) (sd : Side) : ClosedRecord :=
  { counts := (s.shiftSide sd).current
    shiftNumber := s.sau.shiftNumber
    opening := (s.shiftSide sd).opening
    closing := (s.railOf sd).sweepIndex
    article := s.dc.articleNumber }

/-- The close of one side's shift. -/
def closeSide (sd : Side) (s : State) : State :=
  let r := s.closingRecord sd
  let s1 := postRecord (.shift sd r r.counts.figures) (s.modShift sd fun x => { x with closed := r })
  let s2 := s1.modShift sd fun x => { x with current := {}, opening := r.closing, pending := false }
  { s2 with spindles := tmap (fun p x => if sideOf p = sd then x.zeroShift else x) s2.spindles }

/-- The shift number advances once neither side's close is pending. -/
def advanceShift (s : State) : State :=
  if s.sau.sides.a.pending || s.sau.sides.b.pending then s
  else { s with sau := { s.sau with shiftNumber := s.sau.shiftNumber + 1 } }

/-- A side whose pending flag is set closes its shift at its sweep close. -/
def closeIfPending (sd : Side) (s : State) : State :=
  if (s.shiftSide sd).pending then advanceShift (closeSide sd s) else s

/-- SHIFT_CLOSE on one side: a configured side becomes pending, an IDLE side is closed at once. -/
def askClose (sd : Side) (s : State) : State :=
  if s.configured sd then s.modShift sd fun x => { x with pending := true } else closeSide sd s

/-- The Shift Accounting Unit at step 6 of a close; `ends` are the end-downs that step 3 confirmed. -/
def shiftAtClose (sd : Side) (t : CloseTotals) (ev : Nat → Bool) (ends : Nat) (s : State) : State × Option Nat :=
  let (n, running) := s.spindleSweeps sd ev
  let s1 := s.modRecord sd (ShiftRecord.countClose t s.dc.tex s.thresholds.sweepMs n running)
  let s2 : State :=
    { s1 with spindles := tmap (fun p r => if s1.installedOn sd p then r.countSweep (ev p) else r) s1.spindles }
  let (s3, rate) := advanceBlock sd ends n (n * s.thresholds.sweepMs) s2
  (closeIfPending sd s3, rate)

/-- SHIFT_CLOSE (R154). Side A is dealt with before side B, so of two IDLE sides A posts its record first (DESIGN CHOICE,
log entry 62). -/
def shiftClose (src tag : Nat) (s : State) : State :=
  if s.sau.sides.a.pending || s.sau.sides.b.pending then reply src tag 0x40 .busy .none s
  else reply src tag 0x40 .ok .none (advanceShift (askClose .b (askClose .a s)))

/-! ### Meanings -/

/-- RATE_BLOCK_END (R153, R136): the close that brings block_count to block_sweeps, its rate handed on (log entry
2). -/
def execRateBlockEnd (side : Side) (s : State) : Host.Outcome State Fault Refusal :=
  .next (finish (if s.thresholds.blockSweeps ≤ (s.shiftSide side).block.count + 1 then
    let (s1, rate) := advanceBlock side 0 0 0 s
    match rate with
    | some r => takeRate side r s1
    | none => s1
    else s))

/-- SHIFT_CLOSE (R154). -/
def execShiftClose (src tag : Nat) (s : State) : Host.Outcome State Fault Refusal :=
  .next (finish (takeRequest src tag 0x40 (shiftClose src tag) s))

end Sys2Proof.Machine
end

