-- ==== Sys2Proof/Machine/Tables.lean ====
section
/-! DEFINITION. Table writes (R176): the first check of each table, the deferred write list, the second check, the
application (R1, R20, R42, R62, R91, R112, R131, R136, R159, R180), and the meanings of the eleven writes. -/

namespace Sys2Proof.Machine

/-! ### The writes -/

/-- The side whose closes apply a per-side write; `none` for a frame-wide write (R176). -/
def TableWrite.side : TableWrite → Option Side
  | .spindleMap sd _ _ => some sd
  | .zone _ z => some z.side
  | .creelSection _ c => some c.side
  | .mask first _ _ => some (sideOf first)
  | _ => none

/-- The request code of a write's table (11.5). -/
def TableWrite.code : TableWrite → Nat
  | .thresholds _ => 0x01
  | .units _ _ => 0x02
  | .ceilingRow _ _ _ _ => 0x03
  | .articleActive _ => 0x04
  | .articleNext _ => 0x04
  | .articleNextEmpty => 0x04
  | .alertEnable _ => 0x05
  | .spindleMap _ _ _ => 0x06
  | .zone _ _ => 0x07
  | .creelSection _ _ => 0x08
  | .mask _ _ _ => 0x09

/-- A SPINDLE_MAP write is applied at step 8 of its close (R1). -/
def TableWrite.isMap : TableWrite → Bool
  | .spindleMap _ _ _ => true
  | _ => false

/-! ### The second checks and the applications -/

/-- Two runs of positions share a position. -/
def overlap (f1 l1 f2 l2 : Nat) : Bool := f1 ≤ l2 && f2 ≤ l1

/-- An enabled zone or section of the side reaches position `limit` or beyond (R1). -/
def State.reachesBeyond (s : State) (sd : Side) (limit : Nat) : Bool :=
  (channelNumbers.any fun c => (s.zone c).enabled && (s.zone c).side == sd && limit ≤ (s.zone c).last) ||
    sectionNumbers.any fun r =>
      let c := (s.creelSection r).config
      c.enabled && c.side == sd && limit ≤ c.last

/-- The second check of a UNITS write (R159). -/
def State.unitsConflict (s : State) (a : Nat) (r : Role) : Bool :=
  let others := (busAddresses.filter fun b => b != a && (s.unit b).role == r).length
  match r with
  | .none => false
  | .carriage => 4 ≤ others
  | _ => 1 ≤ others

/-- The second check of a ZONE_TABLE write (R62). -/
def State.zoneCheck (s : State) (c : Nat) (z : Zone) : Option ReplyCode :=
  let old := s.zone c
  let others := channelNumbers.filter fun k => k != c && (s.zone k).enabled
  if (s.channel c).inJob && (old.address != z.address || old.side != z.side) then some .busy
  else if !z.enabled then none
  else if s.rangeSide z.first z.last ≠ some z.side then some .range
  else if others.any fun k => overlap z.first z.last (s.zone k).first (s.zone k).last then some .conflict
  else if z.address.all fun a => (s.unit a).role != .carriage then some .conflict
  else if others.any fun k => (s.zone k).address == z.address then some .conflict
  else none

/-- The second check of a SECTION_TABLE write (R112). -/
def State.sectionCheck (s : State) (r : Nat) (c : SectionConfig) : Option ReplyCode :=
  let x := s.creelSection r
  let moved := c.side != x.config.side || c.first != x.config.first || c.last != x.config.last
  let others := sectionNumbers.filter fun k => k != r && (s.creelSection k).config.enabled
  if (x.state == .requested || x.state == .exchanging) && (!c.enabled || moved) then some .busy
  else if !c.enabled then none
  else if s.rangeSide c.first c.last ≠ some c.side then some .range
  else if others.any fun k => overlap c.first c.last (s.creelSection k).config.first (s.creelSection k).config.last then
    some .conflict
  else none

/-- An ARTICLE_ACTIVE write is accepted in this doff state (R91). -/
def DoffState.takesActive (d : DoffState) : Bool := d == .unconfigured || d == .doffing

/-- The check a write meets at its application: the code that refuses it, or `none`. -/
def State.secondCheck (s : State) : TableWrite → Option ReplyCode
  | .spindleMap sd n _ => if s.reachesBeyond sd (sd.base + n) then some .conflict else none
  | .zone c z => s.zoneCheck c z
  | .creelSection r c => s.sectionCheck r c
  | .units a r => if s.unitsConflict a r then some .conflict else none
  | .articleActive _ => if s.dc.state.takesActive then none else some .protected_
  | _ => none

/-- The positions of a side at or beyond its first `n` return to their power-on records (R1). -/
def clearBeyond (sd : Side) (n : Nat) (s : State) : State :=
  let gone (p : Nat) : Bool := sideOf p == sd && sd.base + n ≤ p
  { s with spindles := tmap (fun p r => if gone p then {} else r) s.spindles
           bobbins := tmap (fun p b => if gone p then {} else b) s.bobbins }

/-- The Spindle Table's part of the application of a SPINDLE_MAP write: the records beyond the new installed range return
to power-on, and the spindles that stay installed are reset (R1, R43). -/
def resetForMap (sd : Side) (n : Nat) (s : State) : State :=
  resetSpindles sd (fun p => s.installedOn sd p) s.resetTarget (clearBeyond sd n s)

/-- The application of a SPINDLE_MAP write (R1, R15, R16): the side is reset or brought to IDLE under the new map. The
Piecing Dispatcher acts before any spindle record is touched, as R86 has it (DEDUCED, log entry 58). -/
def applyMap (sd : Side) (n : Nat) (rovingStop : Bool) (s : State) : State :=
  let s1 := s.modRail sd fun r => { r with installed := n, rovingStop := rovingStop }
  if n ≠ 0 then resetSideWith sd (resetForMap sd n) s1
  else if s.configured sd then bringToIdle sd (resetForMap sd n) s1
  else clearBeyond sd n s1

/-- The application of a THRESHOLDS write: BREAK_RATE is tested again against new trim limits (R136), and a new
transport_station may let a request go (R120). -/
def applyThresholds (w : ThresholdFields) (s : State) : State :=
  let s1 : State := { s with thresholds := s.thresholds.updated w }
  let s2 := if w.trimOn.isSome || w.trimOff.isSome then testBreakRate s1 else s1
  if w.transportStation.isSome then sendWaiting s2 else s2

/-- The application of ALERT_ENABLE to one cause (R180). -/
def applyEnable (c : AlertCause) (e : Bool) (s : State) : State :=
  let r := s.alert c
  s.setAlert c { r with enabled := e, send := e && (r.send || r.pending) }

/-- The effect of an applied write. An ARTICLE_ACTIVE write leaves the record of ARTICLE_NEXT standing (DESIGN CHOICE, log
entry 60). The causes of an ALERT_ENABLE write are taken in the order in which it names them, so that of two flags for one
cause the later stands (DESIGN CHOICE, log entry 73). -/
def applyWrite (w : TableWrite) (s : State) : State :=
  match w with
  | .thresholds f => applyThresholds f s
  | .units a r => changeRole a r s
  | .ceilingRow n e l d => applyCeilingRow n e l d s
  | .articleActive a => s.modDoff fun d => { d with active := some a }
  | .articleNext a => s.modDoff fun d => { d with next := some a }
  | .articleNextEmpty => s.modDoff fun d => { d with next := none }
  | .alertEnable cs => cs.foldl (fun x c => applyEnable c.1 c.2 x) s
  | .spindleMap sd n rs => applyMap sd n rs s
  | .zone c z => applyZone c z s
  | .creelSection r c => applySection r c s
  | .mask f l o => (positionRange f l).foldl (fun x p => x.modSpindle p fun r => { r with override := o }) s

/-- A write meets its second check, is applied or refused, and is answered (R176). `at_` is the close that applies it,
`none` where it is applied at once. -/
def completeWrite (at_ : Option (Side × Nat)) (e : DeferredWrite) (s : State) : State :=
  match s.secondCheck e.write with
  | some c => reply e.src e.tag e.write.code c .none s
  | none =>
    reply e.src e.tag e.write.code (if e.clamped then .okClamped else .ok) (.applied at_) (applyWrite e.write s)

/-- The writes of the deferred list that satisfy `due` are completed in the order they were taken, at the close of
side `sd` with index `idx`. -/
def completeDue (sd : Side) (idx : Nat) (due : TableWrite → Bool) (s : State) : State :=
  let now := s.mli.deferred.filter fun e => due e.write
  let s1 := s.modMli fun m => { m with deferred := m.deferred.filter fun e => !due e.write }
  now.foldl (fun x e => tellDoff (completeWrite (some (sd, idx)) e x)) s1

/-- The writes due at step 1 of a side's close. -/
def TableWrite.dueAt (sd : Side) (w : TableWrite) : Bool :=
  !w.isMap && (match w.side with | some x => x == sd | none => true)

/-- The writes due at step 8 of a side's close. -/
def TableWrite.mapDueAt (sd : Side) (w : TableWrite) : Bool := w.isMap && w.side == some sd

/-- A write is applied at once: a per-side write of an IDLE side, a frame-wide write while both sides are IDLE. -/
def State.appliesAtOnce (s : State) (w : TableWrite) : Bool :=
  match w.side with
  | some sd => !s.configured sd
  | none => !s.configured .a && !s.configured .b

/-- A write that has passed its first check enters the deferred write list or is applied at once. -/
def acceptWrite (src tag : Nat) (w : TableWrite) (clamped : Bool) (s : State) : State :=
  let e : DeferredWrite := ⟨src, tag, w, clamped, true⟩
  if s.appliesAtOnce w then conclude (completeWrite none e s)
  else s.modMli fun m => { m with deferred := m.deferred ++ [e] }

/-! ### The first checks -/

/-- THRESHOLDS as the writes waiting now will leave it (R20). -/
def State.projected (s : State) : Thresholds :=
  s.mli.deferred.foldl (fun t e => match e.write with | .thresholds f => t.updated f | _ => t) s.thresholds

/-- A THRESHOLDS write (R2, R20, R136; the parameter tables). -/
def writeThresholds (src tag : Nat) (w : ThresholdFields) (s : State) : State :=
  let c := ThresholdFields.clamped w
  let t := s.projected.updated c
  if t.thrRun ≤ t.thrBreak ∨ t.trimOn ≤ t.trimOff ∨ 63 < c.transportStation.getD 0 then
    reply src tag 0x01 .range .none s
  else acceptWrite src tag (.thresholds c) (c != w) s

/-- A UNITS write (R159). -/
def writeUnits (src tag address role : Nat) (s : State) : State :=
  match roleOfCode role with
  | some r =>
    if 1 ≤ address ∧ address ≤ 7 then acceptWrite src tag (.units address r) false s
    else reply src tag 0x02 .range .none s
  | none => reply src tag 0x02 .range .none s

/-- A CEILING_ROWS write (R131). -/
def writeCeilingRow (src tag row enable lock dwellMin : Nat) (s : State) : State :=
  match rowOfCode row, flagOfCode enable, flagOfCode lock with
  | some n, some e, some l =>
    if n = .doffFault ∧ (!e ∨ !l) then reply src tag 0x03 .protected_ .none s
    else acceptWrite src tag (.ceilingRow n e l (min 255 dwellMin)) (255 < dwellMin) s
  | _, _, _ => reply src tag 0x03 .range .none s

/-- A write of ARTICLE_ACTIVE (R91). The fields are checked before the doff state (DESIGN CHOICE, log entry 59). -/
def writeArticleActive (src tag : Nat) (w : ArticleFields) (s : State) : State :=
  if !ArticleFields.inRange w then reply src tag 0x04 .range .none s
  else if !s.dc.state.takesActive then reply src tag 0x04 .protected_ .none s
  else acceptWrite src tag (.articleActive (ArticleFields.clamped w)) (ArticleFields.wasClamped w) s

/-- A write of ARTICLE_NEXT (R91). -/
def writeArticleNext (src tag : Nat) (w : ArticleFields) (s : State) : State :=
  if !ArticleFields.inRange w then reply src tag 0x04 .range .none s
  else acceptWrite src tag (.articleNext (ArticleFields.clamped w)) (ArticleFields.wasClamped w) s

/-- The emptying of ARTICLE_NEXT (R91). -/
def writeArticleNextEmpty (src tag : Nat) (s : State) : State := acceptWrite src tag .articleNextEmpty false s

/-- The causes and enables of an ALERT_ENABLE; `none` where one is no cause or no flag. -/
def enablesOf : List (Nat × Nat) → Option (List (AlertCause × Bool))
  | [] => some []
  | (c, e) :: rest =>
    match alertOfCode c, flagOfCode e, enablesOf rest with
    | some a, some b, some l => some ((a, b) :: l)
    | _, _, _ => none

/-- ALERT_ENABLE (R180). -/
def writeAlertEnable (src tag : Nat) (causes : List (Nat × Nat)) (s : State) : State :=
  match enablesOf causes with
  | some (c :: cs) => acceptWrite src tag (.alertEnable (c :: cs)) false s
  | _ => reply src tag 0x05 .range .none s

/-- An installed count SPINDLE_MAP accepts (R1). -/
def validCount (n : Nat) : Bool := n == 0 || (n % 16 == 0 && 64 ≤ n && n ≤ 1024)

/-- A SPINDLE_MAP write (R1). Its roving_stop byte is 0 for NOT_FITTED and 1 for FITTED (DESIGN CHOICE, log entry 24). -/
def writeSpindleMap (src tag side installed rovingStop : Nat) (s : State) : State :=
  match sideOfCode side, flagOfCode rovingStop with
  | some sd, some f =>
    if validCount installed then acceptWrite src tag (.spindleMap sd installed f) false s
    else reply src tag 0x06 .range .none s
  | _, _ => reply src tag 0x06 .range .none s

/-- A ZONE_TABLE write (R62). -/
def writeZone (src tag row : Nat) (w : ZoneFields) (s : State) : State :=
  match flagOfCode w.enabled, sideOfCode w.side with
  | some e, some sd =>
    if row ≤ 3 ∧ 1 ≤ w.address ∧ w.address ≤ 7 ∧ w.first ≤ w.last ∧ w.last ≤ 2047 ∧ 16 ≤ w.last + 1 - w.first then
      acceptWrite src tag (.zone row ⟨e, some w.address, sd, w.first, w.last⟩) false s
    else reply src tag 0x07 .range .none s
  | _, _ => reply src tag 0x07 .range .none s

/-- A SECTION_TABLE write (R112). -/
def writeSection (src tag row : Nat) (w : SectionFields) (s : State) : State :=
  let size := w.last + 1 - w.first
  match flagOfCode w.enabled, sideOfCode w.side with
  | some e, some sd =>
    if row ≤ 63 ∧ w.first ≤ w.last ∧ w.last ≤ 2047 ∧ 8 ≤ size ∧ size ≤ 96 ∧ 1 ≤ w.triggerCount ∧
        w.triggerCount ≤ size then
      acceptWrite src tag
        (.creelSection row ⟨e, sd, w.first, w.last, w.triggerCount, min 500 w.reserveM, min 50 w.exhaustM⟩)
        (500 < w.reserveM || 50 < w.exhaustM) s
    else reply src tag 0x08 .range .none s
  | _, _ => reply src tag 0x08 .range .none s

/-- A MASK_TABLE write (R42). -/
def writeMask (src tag first last override : Nat) (s : State) : State :=
  match s.rangeSide first last, overrideOfCode override with
  | some _, some o => acceptWrite src tag (.mask first last o) false s
  | _, _ => reply src tag 0x09 .range .none s

/-! ### Meanings -/

/-- THRESHOLDS_WRITE (R20). -/
def execThresholdsWrite (src tag : Nat) (w : ThresholdFields) (s : State) : Host.Outcome State Fault Refusal :=
  .next (finish (takeRequest src tag 0x01 (writeThresholds src tag w) s))

/-- UNITS_WRITE (R159). -/
def execUnitsWrite (src tag address role : Nat) (s : State) : Host.Outcome State Fault Refusal :=
  .next (finish (takeRequest src tag 0x02 (writeUnits src tag address role) s))

/-- CEILING_ROWS_WRITE (R131). -/
def execCeilingRowsWrite (src tag row enable lock dwellMin : Nat) (s : State) : Host.Outcome State Fault Refusal :=
  .next (finish (takeRequest src tag 0x03 (writeCeilingRow src tag row enable lock dwellMin) s))

/-- ARTICLE_ACTIVE_WRITE (R91). -/
def execArticleActiveWrite (src tag : Nat) (w : ArticleFields) (s : State) : Host.Outcome State Fault Refusal :=
  .next (finish (takeRequest src tag 0x04 (writeArticleActive src tag w) s))

/-- ARTICLE_NEXT_WRITE (R91). -/
def execArticleNextWrite (src tag : Nat) (w : ArticleFields) (s : State) : Host.Outcome State Fault Refusal :=
  .next (finish (takeRequest src tag 0x04 (writeArticleNext src tag w) s))

/-- ARTICLE_NEXT_EMPTY (R91). -/
def execArticleNextEmpty (src tag : Nat) (s : State) : Host.Outcome State Fault Refusal :=
  .next (finish (takeRequest src tag 0x04 (writeArticleNextEmpty src tag) s))

/-- ALERT_ENABLE (R180). -/
def execAlertEnable (src tag : Nat) (causes : List (Nat × Nat)) (s : State) : Host.Outcome State Fault Refusal :=
  .next (finish (takeRequest src tag 0x05 (writeAlertEnable src tag causes) s))

/-- SPINDLE_MAP_WRITE (R1). -/
def execSpindleMapWrite (src tag side installed rovingStop : Nat) (s : State) : Host.Outcome State Fault Refusal :=
  .next (finish (takeRequest src tag 0x06 (writeSpindleMap src tag side installed rovingStop) s))

/-- ZONE_TABLE_WRITE (R62). -/
def execZoneTableWrite (src tag row : Nat) (w : ZoneFields) (s : State) : Host.Outcome State Fault Refusal :=
  .next (finish (takeRequest src tag 0x07 (writeZone src tag row w) s))

/-- SECTION_TABLE_WRITE (R112). -/
def execSectionTableWrite (src tag row : Nat) (w : SectionFields) (s : State) : Host.Outcome State Fault Refusal :=
  .next (finish (takeRequest src tag 0x08 (writeSection src tag row w) s))

/-- MASK_TABLE_WRITE (R42). -/
def execMaskTableWrite (src tag first last override : Nat) (s : State) : Host.Outcome State Fault Refusal :=
  .next (finish (takeRequest src tag 0x09 (writeMask src tag first last override) s))

end Sys2Proof.Machine
end

