-- ==== Sys2Proof/Machine/Reads.lean ====
section
/-! DEFINITION. The management reads (R175): what each returns, as the state stands when it is executed, and their
meanings. A read makes its reply and changes nothing else. -/

namespace Sys2Proof.Machine

/-! ### What the reads return -/

/-- The whole seconds left of a timer (00: a division truncates; DEDUCED, log entry 55). -/
def Timer.seconds (t : Timer) : Timer := t.map (· / 1000)

/-- A channel record with its timers in seconds. -/
def Channel.reported (x : Channel) : Channel :=
  { x with jobTimer := Timer.seconds x.jobTimer, cancelTimer := Timer.seconds x.cancelTimer }

/-- The doff record with its timers in seconds. -/
def DoffUnit.reported (d : DoffUnit) : DoffUnit :=
  { d with stopTimer := Timer.seconds d.stopTimer, clearTimer := Timer.seconds d.clearTimer,
           doffTimer := Timer.seconds d.doffTimer }

/-- A section with its timers in seconds. -/
def Section.reported (x : Section) : Section :=
  { x with transportTimer := Timer.seconds x.transportTimer, backoffTimer := Timer.seconds x.backoffTimer }

/-- PIECING_STATUS (R87). -/
def State.piecingData (s : State) : ReplyData :=
  .piecing s.pd.zones.toList (s.pd.channels.toList.map Channel.reported)
    (channelNumbers.map fun c => (s.breakQueue c).map fun p => ⟨p, (s.spindle p).downSince, s.ageIn c p⟩)
    ⟨s.pd.downLoad.a.figures, s.pd.downLoad.b.figures⟩

/-- DOFF_STATUS (R109). -/
def State.doffData (s : State) : ReplyData := .doff s.dc.reported s.dc.fullTarget s.dc.prewarnPoint

/-- CEILING_STATUS (R145). -/
def State.ceilingData (s : State) : ReplyData :=
  .ceiling
    { rows := s.dcu.rows, ceiling := s.dcu.ceiling, positioning := s.dcu.positioning, lastActual := s.dcu.lastActual,
      confirmed := s.dcu.confirmed, disobey := s.dcu.disobey, graceTimer := s.dcu.graceTimer,
      graceExpired := s.dcu.graceExpired, startPending := s.dcu.startPending, rates := s.dcu.rates, lines := s.dcu.lines }

/-- One side of SHIFT_STATUS (R157). -/
def State.shiftStatusOf (s : State) (sd : Side) : ShiftSideStatus :=
  { side := s.shiftSide sd
    sweepIndex := (s.railOf sd).sweepIndex
    currentFigures := (s.shiftSide sd).current.figures
    closedFigures := (s.shiftSide sd).closed.counts.figures }

/-- SHIFT_STATUS (R157). -/
def State.shiftData (s : State) : ReplyData := .shift s.sau.shiftNumber ⟨s.shiftStatusOf .a, s.shiftStatusOf .b⟩

/-- A unit's record as BUS_STATUS gives it. -/
def BusUnit.reported (u : BusUnit) : UnitStatus :=
  { role := u.role, state := u.state, missedPolls := u.missedPolls, missedTotal := u.missedTotal,
    causeFlag := u.causeFlag, slotType := u.slot.map (·.bytes.1), answerCode := u.answer.map AnswerCode.code }

/-- The pass-through slot as BUS_STATUS gives it. -/
def PassRequest.reported (r : PassRequest) : PassStatus :=
  { tag := r.tag, unit := r.addr, register := r.register, polls := r.polls }

/-- BUS_STATUS (R169). -/
def State.busData (s : State) : ReplyData :=
  .bus (s.sbm.units.toList.map BusUnit.reported) (s.sbm.pass.map PassRequest.reported) s.sbm.cycle

/-- RAIL_STATUS of a side (R8). -/
def State.railData (s : State) (sd : Side) : ReplyData :=
  let r := s.railOf sd
  .rail { counters := r.counters, state := r.state, sweepNumber := r.sweepNumber, sweepIndex := r.sweepIndex,
          lostCount := r.lostCount, noGoodRun := r.noGoodRun, huntCount := r.huntCount, installed := r.installed,
          rovingStop := r.rovingStop, heads := r.heads }

/-- CREEL_STATUS of a range (R129). -/
def State.creelData (s : State) (first last : Nat) : ReplyData :=
  .creel (s.cc.sections.toList.map Section.reported)
    (s.cc.transportQueue.map fun e => ⟨e.row, (s.creelSection e.row).state, e.urgent, e.entryNumber⟩)
    s.cc.inFlight s.cc.waiting s.cc.discardedAnswers s.cc.loads s.cc.rovingLamp
    ((positionRange first last).map s.bobbin)

/-- LINE_STATUS (R175). The read itself holds a request queue place until its reply is made (R174, log entry 37). -/
def State.lineData (s : State) : ReplyData :=
  let m := s.mli
  .line { station := m.station.toNat
          links := [m.upstream.up, m.downstream.up]
          counters := [m.upstream.badFrame, m.downstream.badFrame, m.dropUpstream, m.dropDownstream, m.unknownFrame,
            m.replyDrop, m.transportDrop]
          fill := m.reports.length
          eventGap := m.eventGap
          recordGap := m.recordGap
          highMark := m.highMark
          placesHeld := s.placesHeld + 1
          deferred := m.deferred.map fun e => ⟨e.tag, e.write.code⟩
          alerts := m.alerts.toList }

/-! ### The reads -/

def readThresholds (src tag : Nat) (s : State) : State := reply src tag 0x20 .ok (.thresholds s.thresholds) s
def readLength (src tag : Nat) (s : State) : State := reply src tag 0x21 .ok (.length s.lu s.dc.delivered) s
def readPiecing (src tag : Nat) (s : State) : State := reply src tag 0x22 .ok s.piecingData s
def readDoff (src tag : Nat) (s : State) : State := reply src tag 0x23 .ok s.doffData s
def readCeiling (src tag : Nat) (s : State) : State := reply src tag 0x24 .ok s.ceilingData s
def readShift (src tag : Nat) (s : State) : State := reply src tag 0x25 .ok s.shiftData s
def readBus (src tag : Nat) (s : State) : State := reply src tag 0x26 .ok s.busData s

/-- RAIL_STATUS: a side other than A and B gives RANGE (R175). -/
def readRail (src tag side : Nat) (s : State) : State :=
  match sideOfCode side with
  | some sd => reply src tag 0x27 .ok (s.railData sd) s
  | none => reply src tag 0x27 .range .none s

/-- CREEL_STATUS: a range outside one side's installed spindles gives RANGE (R129). -/
def readCreel (src tag first last : Nat) (s : State) : State :=
  if (s.rangeSide first last).isSome then reply src tag 0x28 .ok (s.creelData first last) s
  else reply src tag 0x28 .range .none s

/-- SPINDLE_RECORDS: at most 64 installed spindles of one side (R175). -/
def readSpindles (src tag first last : Nat) (s : State) : State :=
  if (s.rangeSide first last).isSome ∧ last + 1 - first ≤ 64 then
    reply src tag 0x29 .ok (.spindles ((positionRange first last).map s.spindle)) s
  else reply src tag 0x29 .range .none s

def readLine (src tag : Nat) (s : State) : State := reply src tag 0x2A .ok s.lineData s

/-! ### Meanings -/

/-- READ_THRESHOLDS (R175). -/
def execReadThresholds (src tag : Nat) (s : State) : Host.Outcome State Fault Refusal :=
  .next (takeRequest src tag 0x20 (readThresholds src tag) s)

/-- LENGTH_STATUS (R60). -/
def execLengthStatus (src tag : Nat) (s : State) : Host.Outcome State Fault Refusal :=
  .next (takeRequest src tag 0x21 (readLength src tag) s)

/-- PIECING_STATUS (R87). -/
def execPiecingStatus (src tag : Nat) (s : State) : Host.Outcome State Fault Refusal :=
  .next (takeRequest src tag 0x22 (readPiecing src tag) s)

/-- DOFF_STATUS (R109). -/
def execDoffStatus (src tag : Nat) (s : State) : Host.Outcome State Fault Refusal :=
  .next (takeRequest src tag 0x23 (readDoff src tag) s)

/-- CEILING_STATUS (R145). -/
def execCeilingStatus (src tag : Nat) (s : State) : Host.Outcome State Fault Refusal :=
  .next (takeRequest src tag 0x24 (readCeiling src tag) s)

/-- SHIFT_STATUS (R157). -/
def execShiftStatus (src tag : Nat) (s : State) : Host.Outcome State Fault Refusal :=
  .next (takeRequest src tag 0x25 (readShift src tag) s)

/-- BUS_STATUS (R169). -/
def execBusStatus (src tag : Nat) (s : State) : Host.Outcome State Fault Refusal :=
  .next (takeRequest src tag 0x26 (readBus src tag) s)

/-- RAIL_STATUS (R8, R175). -/
def execRailStatus (src tag side : Nat) (s : State) : Host.Outcome State Fault Refusal :=
  .next (takeRequest src tag 0x27 (readRail src tag side) s)

/-- CREEL_STATUS (R129). -/
def execCreelStatus (src tag first last : Nat) (s : State) : Host.Outcome State Fault Refusal :=
  .next (takeRequest src tag 0x28 (readCreel src tag first last) s)

/-- SPINDLE_RECORDS (R175). -/
def execSpindleRecords (src tag first last : Nat) (s : State) : Host.Outcome State Fault Refusal :=
  .next (takeRequest src tag 0x29 (readSpindles src tag first last) s)

/-- LINE_STATUS (R175). -/
def execLineStatus (src tag : Nat) (s : State) : Host.Outcome State Fault Refusal :=
  .next (takeRequest src tag 0x2A (readLine src tag) s)

end Sys2Proof.Machine
end

