-- ==== Sys2Proof/Machine/Restart.lean ====
section
/-! DEFINITION. Power-on and the warm restart: the restart of each block in turn (R17, R43, R88, R110, R130, R146,
R158, R170, R177, R182; the order of the blocks is log entry 11), and the meanings of both. -/

namespace Sys2Proof.Machine

/-! ### Alerts cleared and pending again (R181, R182) -/

/-- The record of a cause cleared; the enable is kept. -/
def AlertRecord.clear (r : AlertRecord) : AlertRecord :=
  { r with pending := false, occurrences := 0, detail := none, send := false }

/-- A level cause whose condition is present becomes pending again, with occurrences 1 (log entry 26: no detail). -/
def rePend (c : AlertCause) (s : State) : State :=
  if s.levelCondition c then
    s.setAlert c { s.alert c with pending := true, occurrences := 1, send := (s.alert c).enabled }
  else s

/-! ### The blocks -/

/-- A frame under transmission is no longer the reply of the RESTART that waits (R177). -/
def TxFrame.disarmed : TxFrame → TxFrame
  | .reply r fragment last => .reply { r with restart := false } fragment last
  | f => f

/-- The Mill Line Interface (R182). -/
def restartLine (s : State) : State :=
  let s1 := s.modMli fun m =>
    { m with
      deferred := m.deferred.map fun e => { e with holdsPlace := false }
      replies := []
      transport := []
      reports := []
      highMark := false
      eventGap := 0
      alerts := tmap (fun _ r => r.clear) m.alerts
      lastOwn := true
      upTx := m.upTx.map TxFrame.disarmed
      restartArmed := false }
  rePend .unitCause (rePend .ceilingLocked (rePend .panelStop s1))

/-- The Drive Ceiling Unit (R146). -/
def restartCeiling (s : State) : State :=
  s.modDcu fun d => { d with disobey := 0, startPending := false, reevaluate := true }

/-- One unit of the Service Bus Master (R170). -/
def restartUnit (a : Nat) (s : State) : State :=
  let old := s.unit a
  let new : UnitState := if old.role = .none then .absent else .offline
  let s1 := s.modUnit a fun u =>
    { u with state := new, missedPolls := 0, slot := none, carried := false, waiting := [], answer := none }
  let s2 := if old.role = .drive then startGrace s1 else s1
  if old.state = new then s2 else reportUnit a old.state s2

/-- The Service Bus Master (R170), address 1 first (DESIGN CHOICE, log entry 77). The exchange in progress and those that the
present cycle still owes are dropped (DESIGN CHOICE, log entry 79). -/
def restartBus (s : State) : State :=
  busAddresses.foldl (fun x a => restartUnit a x)
    (s.modSbm fun b => { b with pass := none, cycle := 0, begun := false, exchanges := [], current := none })

/-- One channel (R88). -/
def restartChannel (c : Nat) (s : State) : State :=
  let x := s.channel c
  let new : Channel := { position := x.position, direction := x.direction }
  if x.state == .offline then s.setChannel c new else goOffline c .unit (s.setChannel c { new with state := x.state })

/-- The Piecing Dispatcher (R88). Channel 0 restarts first, which orders the CHANNEL_STATE reports and leaves CARRIAGE_OFFLINE
with the detail of the last (DESIGN CHOICE, log entry 77). -/
def restartPiecing (s : State) : State :=
  let s1 : State := { s with
    pd := { s.pd with queues := Vector.replicate 4 [], protection := false }
    spindles := tmap (fun _ r => { r with queued := false }) s.spindles }
  channelNumbers.foldl (fun x c => restartChannel c x) s1

/-- The rate blocks (R158). -/
def restartShift (s : State) : State :=
  (s.modShift .a fun x => { x with block := {} }).modShift .b fun x => { x with block := {} }

/-- One section (R130). -/
def restartSection (r : Nat) (s : State) : State :=
  let old := s.creelSection r
  reportSection r old.state none none (s.setSection r { config := old.config })

/-- The Creel Controller (R130), row 0 first (DESIGN CHOICE, log entry 77). -/
def restartCreel (s : State) : State :=
  sectionNumbers.foldl (fun x r => restartSection r x)
    (s.modCreel fun c => { c with queue := [], stalled := [], inFlight := none, waiting := [], changeTimer := none })

/-- The Doff Controller (R110). -/
def restartDoff (s : State) : State :=
  let s1 := s.modDoff fun d =>
    { d with dofferReady := false, driveAtDoff := false, carriagesClear := false, protecting := false,
             stopTimer := none, clearTimer := none, doffTimer := none }
  let guarded (x : State) : State := (protect x).modDoff fun d => { d with protecting := true }
  match s1.dc.state with
  | .full => guarded (enterDoffFault .full .restart s1)
  | .doffing => guarded (enterDoffFault .doffing .restart s1)
  | .doffFault => guarded (setDoffRows s1)
  | .settle => requestStart (guarded (setDoffRows s1))
  | .nearFull => placeForDoffer .doffPrepare (setDoffRows s1)
  | _ => setDoffRows s1

/-- The warm restart of every block (R177). -/
def warmRestart (s : State) : State :=
  let s1 := restartPiecing (restartBus (restartCeiling (restartLine s)))
  let s2 := restartSide .b (restartSide .a s1)
  recomputeCeiling (restartDoff (restartCreel (restartShift s2)))

/-- A panel input at power-on: its line shows what it showed, and its 50 ms begin (R144). -/
def PanelInput.fresh (x : PanelInput) : PanelInput := { raw := x.raw }

def PanelInputs.fresh (i : PanelInputs) : PanelInputs where
  panelStop := i.panelStop.fresh
  doffCall := i.doffCall.fresh
  creelDone := i.creelDone.fresh
  lampTest := i.lampTest.fresh

/-- The part at power-on, with the straps it samples (R17, R172), its panel lines as they stand (R144) and the commands
that wait. -/
def poweredOn (straps : BitVec 6) (inputs : PanelInputs) (waiting : List Instr) : State :=
  { State.reset with mli := { station := straps }, dcu := { inputs := inputs.fresh }, pending := waiting }

/-! ### Meanings -/

/-- POWER_ON: every block takes its power-on values and the straps are sampled (R17, R172). -/
def execPowerOn (straps : BitVec 6) (s : State) : Host.Outcome State Fault Refusal :=
  .next (poweredOn straps s.dcu.inputs s.pending)

/-- WARM_RESTART (R177): an armed restart takes effect; nothing happens where none is armed (log entry 3). -/
def execWarmRestart (s : State) : Host.Outcome State Fault Refusal :=
  .next (finish (if s.mli.restartArmed then warmRestart s else s))

end Sys2Proof.Machine
end

