-- ==== Sys2Proof/Machine/Commands.lean ====
section
/-! DEFINITION. The management commands (R175): each command's checks, effect and reply (R38 to R41, R58, R85, R95,
R105, R107, R125, R133, R137, R167, R177, R181), the execution of a request by what its payload asks, and the
commands' meanings. -/

namespace Sys2Proof.Machine

/-! ### The doff (R58, R95, R105, R107) -/

/-- DOFF_NOW (R95). -/
def doffNow (src tag : Nat) (s : State) : State :=
  match s.dc.state with
  | .build | .nearFull => reply src tag 0x41 .ok .none (conclude (callDoff s))
  | .full => reply src tag 0x41 .ok .none s
  | _ => reply src tag 0x41 .protected_ .none s

/-- The defer length of the active article in millimetres. -/
def DoffUnit.deferMm (d : DoffUnit) : Nat := match d.active with | some a => a.deferM * 1000 | none => 0

/-- An accepted defer (R105). -/
def deferDoff (s : State) : State :=
  let s1 := s.modDoff fun d => { d with deferExt := d.deferMm, deferTaken := true }
  if s.dc.state = .full then
    enterBuild ((releaseProtection (s1.modDoff fun d => { d with stopTimer := none, clearTimer := none })).modDoff
      fun d => { d with protecting := false })
  else enterBuild s1

/-- DOFF_DEFER (R105). -/
def doffDefer (src tag : Nat) (s : State) : State :=
  if s.dc.state = .nearFull ∨ s.dc.state = .full then
    if s.dc.deferTaken ∨ s.dc.fullTarget + s.dc.deferMm ≤ s.dc.delivered then reply src tag 0x42 .range .none s
    else reply src tag 0x42 .ok .none (conclude (deferDoff s))
  else reply src tag 0x42 .protected_ .none s

/-- PRESET_BUILD (R58). -/
def presetCommand (src tag length : Nat) (s : State) : State :=
  if s.dc.state = .build ∨ s.dc.state = .nearFull then
    if s.dc.fullTarget < length then reply src tag 0x43 .range .none s
    else reply src tag 0x43 .ok .none (conclude (presetBuild length s))
  else reply src tag 0x43 .protected_ .none s

/-- An accepted RELEASE(DOFF) (R107). -/
def releaseFault (s : State) : State :=
  let s1 := s.modDoff fun d => { d with origin := none, faultReason := none }
  match s.dc.origin with
  | some .doffing => enterSettle s1
  | _ => placeForDoffer .doffPrepare (enterFull s1)

/-- RELEASE(DOFF) (R107). -/
def releaseDoff (src tag : Nat) (s : State) : State :=
  if s.dc.state = .doffFault then reply src tag 0x49 .ok .none (conclude (releaseFault s))
  else reply src tag 0x49 .protected_ .none s

/-! ### Spindles (R38 to R41) -/

/-- The mask of one spindle with its notices (R39). -/
def maskSpindle (k : MaskKind) (p : Nat) (s : State) : State :=
  let r := s.spindle p
  match r.state with
  | .masked => s.setSpindle p { r with mask := k }
  | .down | .red | .piecing => tellLeft p (s.setSpindle p (r.maskAs k))
  | .rovingOut => dropWaiting p (s.setSpindle p (r.maskAs k))
  | _ => s.setSpindle p (r.maskAs k)

/-- How many spindles of a range satisfy `f`. -/
def State.countIn (s : State) (first last : Nat) (f : Spindle → Bool) : Nat :=
  ((positionRange first last).filter fun p => f (s.spindle p)).length

/-- SPINDLE_MASK (R38, R39). The spindles are masked in ascending order, which orders the JOB_END reports and CANCELs of
several jobs (DESIGN CHOICE, log entry 65). -/
def spindleMask (src tag first last kind : Nat) (s : State) : State :=
  match s.rangeSide first last, maskKindOfCode kind with
  | some _, some k =>
    let n := s.countIn first last fun r => r.state != .masked
    reply src tag 0x44 .ok (.count n)
      (conclude ((positionRange first last).foldl (fun x p => maskSpindle k p x) s))
  | _, _ => reply src tag 0x44 .range .none s

/-- SPINDLE_UNMASK (R38, R40). -/
def spindleUnmask (src tag first last : Nat) (s : State) : State :=
  if (s.rangeSide first last).isSome then
    let paused := s.spindlesPaused
    let n := s.countIn first last fun r => r.state == .masked
    reply src tag 0x45 .ok (.count n) ((positionRange first last).foldl
      (fun x p => x.modSpindle p fun r => if r.state = .masked then r.unmask paused else r) s)
  else reply src tag 0x45 .range .none s

/-- One RED spindle goes to DOWN and leaves the Piecing Dispatcher's RED count at once (R41). -/
def clearRedSpindle (p : Nat) (s : State) : State :=
  if (s.spindle p).state = .red then uncount p (s.modSpindle p fun r => r.clearRed) else s

/-- CLEAR_RED (R38, R41). -/
def clearRed (src tag first last : Nat) (s : State) : State :=
  if (s.rangeSide first last).isSome then
    let n := s.countIn first last fun r => r.state == .red
    reply src tag 0x46 .ok (.count n) ((positionRange first last).foldl (fun x p => clearRedSpindle p x) s)
  else reply src tag 0x46 .range .none s

/-! ### Channels (R85) -/

/-- The parts of a CHANNEL_CONTROL on the fields of the channel. -/
def Channel.control (q : ChannelParts) (x : Channel) : Channel :=
  let waits := x.state == .idle || x.state == .offline
  let x1 := if q.holdSet then (if waits then { x with hold := true } else { x with holdPending := true }) else x
  let x2 := if q.holdClear then { x1 with hold := false, holdPending := false, heldByDoff := false } else x1
  let x3 := if q.blockSet then { x2 with block := true } else x2
  let x4 := if q.blockClear then { x3 with block := false } else x3
  let x5 := if q.autoHoldSet then { x4 with autoHold := true } else x4
  let x6 := if q.autoHoldClear then { x5 with autoHold := false } else x5
  if q.seqSet0 then { x6 with seq := false } else if q.seqSet1 then { x6 with seq := true } else x6

/-- An accepted CHANNEL_CONTROL: the parts in order; a block set on an OFFERED channel cancels the offer (R81), a seq
set brings a channel back that three withdrawn offers took OFFLINE (R69). -/
def controlChannel (c : Nat) (q : ChannelParts) (s : State) : State :=
  let s1 := s.modChannel c (Channel.control q)
  let s2 := if q.blockSet && (s.channel c).state == .offered then cancelJob c .cancelled s1 else s1
  if (q.seqSet0 || q.seqSet1) && (s.channel c).state == .offline && (s.channel c).offlineCause == some .misses then
    becomeIdleFromOffline c false s2
  else s2

/-- CHANNEL_CONTROL (R85). -/
def channelControl (src tag c : Nat) (q : ChannelParts) (s : State) : State :=
  if 3 < c ∨ (q.holdSet ∧ q.holdClear) ∨ (q.blockSet ∧ q.blockClear) ∨ (q.autoHoldSet ∧ q.autoHoldClear) then
    reply src tag 0x47 .range .none s
  else if s.pd.protection ∧ (q.holdClear ∨ q.blockSet) then reply src tag 0x47 .protected_ .none s
  else if (q.seqSet0 ∨ q.seqSet1) ∧ (s.channel c).inJob then reply src tag 0x47 .busy .none s
  else reply src tag 0x47 .ok .none (conclude (controlChannel c q s))

/-! ### Ceiling rows and sections (R125, R133, R137) -/

/-- CEILING_OVERRIDE (R137). -/
def overrideCeiling (src tag : Nat) (mode : Option Nat) (s : State) : State :=
  match mode with
  | none => reply src tag 0x48 .ok .none (setCause .overrideRow false s)
  | some n =>
    match modeOfCode n with
    | some m => reply src tag 0x48 .ok .none (setCause .overrideRow true (setRowMode .overrideRow (some m) false s))
    | none => reply src tag 0x48 .range .none s

/-- RELEASE naming a ceiling row (R133). -/
def releaseCeilingRow (src tag row : Nat) (s : State) : State :=
  match rowOfCode row with
  | some n =>
    if (s.ceilingRow n).latched then reply src tag 0x49 .ok .none (releaseRow n s)
    else reply src tag 0x49 .protected_ .none s
  | none => reply src tag 0x49 .range .none s

/-- RELEASE naming a section (R125). -/
def releaseSection (src tag row : Nat) (s : State) : State :=
  if 63 < row then reply src tag 0x49 .range .none s
  else if (s.creelSection row).state = .stalled then reply src tag 0x49 .ok .none (returnStalled row s)
  else reply src tag 0x49 .protected_ .none s

/-! ### Pass-through (R167) -/

/-- A pass-through request whose arguments are in range. -/
def acceptPass (r : PassRequest) (s : State) : State :=
  if s.sbm.pass.isSome then reply r.src r.tag r.code .busy .none s
  else if (s.unit r.addr).state ≠ .online then reply r.src r.tag r.code .unitOffline .none s
  else enterPass (setPass (some r) s)

/-- PASS_READ (R167). -/
def passRead (src tag unit register count : Nat) (s : State) : State :=
  if 1 ≤ unit ∧ unit ≤ 7 ∧ register ≤ 255 ∧ 1 ≤ count ∧ count ≤ 16 then
    acceptPass ⟨src, tag, .read count, unit, register, none⟩ s
  else reply src tag 0x4A .range .none s

/-- PASS_WRITE (R167). -/
def passWrite (src tag unit register : Nat) (data : List Byte) (s : State) : State :=
  if 1 ≤ unit ∧ unit ≤ 7 ∧ register ≤ 255 ∧ 1 ≤ data.length ∧ data.length ≤ 16 then
    acceptPass ⟨src, tag, .write data, unit, register, none⟩ s
  else reply src tag 0x4B .range .none s

/-! ### Alerts and resets (R177, R181) -/

/-- The causes of a list of codes; `none` where one is no cause. -/
def causesOf : List Nat → Option (List AlertCause)
  | [] => some []
  | n :: ns =>
    match alertOfCode n, causesOf ns with
    | some c, some cs => some (c :: cs)
    | _, _ => none

/-- The acknowledgment of one cause. -/
def acknowledge (c : AlertCause) (s : State) : State := rePend c (s.setAlert c (s.alert c).clear)

/-- ALERT_ACK (R181). -/
def alertAck (src tag : Nat) (causes : List Nat) (s : State) : State :=
  match causesOf causes with
  | some (c :: cs) => reply src tag 0x4C .ok .none ((c :: cs).foldl (fun x d => acknowledge d x) s)
  | _ => reply src tag 0x4C .range .none s

/-- SIDE_RESET (R177). -/
def sideResetCommand (src tag side : Nat) (s : State) : State :=
  match sideOfCode side with
  | some sd => reply src tag 0x4D .ok .none (conclude (sideReset sd s))
  | none => reply src tag 0x4D .range .none s

/-- RESTART (R177): the OK reply is made and the restart armed; it takes effect at once where the reply list is full
or the upstream link is DOWN, and the reply is then discarded. -/
def restartCommand (src tag : Nat) (s : State) : State :=
  let r : Reply := ⟨src, tag, .ok, 0x4E, .none, 0, true⟩
  if 8 ≤ s.mli.replies.length ∨ !s.mli.upstream.up then warmRestart (addReply r s)
  else (addReply r s).modMli fun m => { m with restartArmed := true }

/-! ### Execution of a request (R174, R175) -/

/-- What a request does once it is taken. -/
def runRequest (src tag : Nat) (q : Request) (s : State) : State :=
  match q with
  | .thresholdsWrite w => writeThresholds src tag w s
  | .unitsWrite a r => writeUnits src tag a r s
  | .ceilingRowsWrite r e l d => writeCeilingRow src tag r e l d s
  | .articleActiveWrite w => writeArticleActive src tag w s
  | .articleNextWrite w => writeArticleNext src tag w s
  | .articleNextEmpty => writeArticleNextEmpty src tag s
  | .alertEnable cs => writeAlertEnable src tag cs s
  | .spindleMapWrite sd n r => writeSpindleMap src tag sd n r s
  | .zoneTableWrite r w => writeZone src tag r w s
  | .sectionTableWrite r w => writeSection src tag r w s
  | .maskTableWrite f l o => writeMask src tag f l o s
  | .readThresholds => readThresholds src tag s
  | .lengthStatus => readLength src tag s
  | .piecingStatus => readPiecing src tag s
  | .doffStatus => readDoff src tag s
  | .ceilingStatus => readCeiling src tag s
  | .shiftStatus => readShift src tag s
  | .busStatus => readBus src tag s
  | .railStatus sd => readRail src tag sd s
  | .creelStatus f l => readCreel src tag f l s
  | .spindleRecords f l => readSpindles src tag f l s
  | .lineStatus => readLine src tag s
  | .shiftClose => shiftClose src tag s
  | .doffNow => doffNow src tag s
  | .doffDefer => doffDefer src tag s
  | .presetBuild n => presetCommand src tag n s
  | .spindleMask f l k => spindleMask src tag f l k s
  | .spindleUnmask f l => spindleUnmask src tag f l s
  | .clearRed f l => clearRed src tag f l s
  | .channelControl c q => channelControl src tag c q s
  | .ceilingOverride m => overrideCeiling src tag m s
  | .releaseCeilingRow r => releaseCeilingRow src tag r s
  | .releaseDoff => releaseDoff src tag s
  | .releaseSection r => releaseSection src tag r s
  | .passRead u r n => passRead src tag u r n s
  | .passWrite u r d => passWrite src tag u r d s
  | .alertAck cs => alertAck src tag cs s
  | .sideReset sd => sideResetCommand src tag sd s
  | .restart => restartCommand src tag s
  | .outOfRange c => reply src tag c .range .none s
  | .unknown c => reply src tag c .unknownTable .none s

/-- A management request as the line hands it over (R174). -/
def handleRequest (src tag : Nat) (q : Request) (s : State) : State :=
  takeRequest src tag q.code (runRequest src tag q) s

/-! ### Meanings -/

/-- UNKNOWN_TABLE (R174). -/
def execUnknownTable (src tag code : Nat) (s : State) : Host.Outcome State Fault Refusal :=
  .next (finish (takeRequest src tag code (reply src tag code .unknownTable .none) s))

/-- DOFF_NOW (R95). -/
def execDoffNow (src tag : Nat) (s : State) : Host.Outcome State Fault Refusal :=
  .next (finish (takeRequest src tag 0x41 (doffNow src tag) s))

/-- DOFF_DEFER (R105). -/
def execDoffDefer (src tag : Nat) (s : State) : Host.Outcome State Fault Refusal :=
  .next (finish (takeRequest src tag 0x42 (doffDefer src tag) s))

/-- PRESET_BUILD (R58, R59). -/
def execPresetBuild (src tag length : Nat) (s : State) : Host.Outcome State Fault Refusal :=
  .next (finish (takeRequest src tag 0x43 (presetCommand src tag length) s))

/-- SPINDLE_MASK (R39). -/
def execSpindleMask (src tag first last kind : Nat) (s : State) : Host.Outcome State Fault Refusal :=
  .next (finish (takeRequest src tag 0x44 (spindleMask src tag first last kind) s))

/-- SPINDLE_UNMASK (R40). -/
def execSpindleUnmask (src tag first last : Nat) (s : State) : Host.Outcome State Fault Refusal :=
  .next (finish (takeRequest src tag 0x45 (spindleUnmask src tag first last) s))

/-- CLEAR_RED (R41). -/
def execClearRed (src tag first last : Nat) (s : State) : Host.Outcome State Fault Refusal :=
  .next (finish (takeRequest src tag 0x46 (clearRed src tag first last) s))

/-- CHANNEL_CONTROL naming hold set (R85). -/
def execHoldSet (src tag channel : Nat) (s : State) : Host.Outcome State Fault Refusal :=
  .next (finish (takeRequest src tag 0x47 (channelControl src tag channel { holdSet := true }) s))

/-- CHANNEL_CONTROL naming hold clear (R85). -/
def execHoldClear (src tag channel : Nat) (s : State) : Host.Outcome State Fault Refusal :=
  .next (finish (takeRequest src tag 0x47 (channelControl src tag channel { holdClear := true }) s))

/-- CHANNEL_CONTROL naming block set (R85). -/
def execBlockSet (src tag channel : Nat) (s : State) : Host.Outcome State Fault Refusal :=
  .next (finish (takeRequest src tag 0x47 (channelControl src tag channel { blockSet := true }) s))

/-- CHANNEL_CONTROL naming block clear (R85). -/
def execBlockClear (src tag channel : Nat) (s : State) : Host.Outcome State Fault Refusal :=
  .next (finish (takeRequest src tag 0x47 (channelControl src tag channel { blockClear := true }) s))

/-- CHANNEL_CONTROL naming auto_hold set (R85). -/
def execAutoHoldSet (src tag channel : Nat) (s : State) : Host.Outcome State Fault Refusal :=
  .next (finish (takeRequest src tag 0x47 (channelControl src tag channel { autoHoldSet := true }) s))

/-- CHANNEL_CONTROL naming auto_hold clear (R85). -/
def execAutoHoldClear (src tag channel : Nat) (s : State) : Host.Outcome State Fault Refusal :=
  .next (finish (takeRequest src tag 0x47 (channelControl src tag channel { autoHoldClear := true }) s))

/-- CHANNEL_CONTROL naming a seq (R69, R85). -/
def execSeqSet (src tag channel : Nat) (value : Bool) (s : State) : Host.Outcome State Fault Refusal :=
  .next (finish (takeRequest src tag 0x47
    (channelControl src tag channel { seqSet0 := !value, seqSet1 := value }) s))

/-- CEILING_OVERRIDE (R137). -/
def execCeilingOverride (src tag : Nat) (mode : Option Nat) (s : State) : Host.Outcome State Fault Refusal :=
  .next (finish (takeRequest src tag 0x48 (overrideCeiling src tag mode) s))

/-- RELEASE naming a ceiling row (R133). -/
def execReleaseCeilingRow (src tag row : Nat) (s : State) : Host.Outcome State Fault Refusal :=
  .next (finish (takeRequest src tag 0x49 (releaseCeilingRow src tag row) s))

/-- RELEASE(DOFF) (R107). -/
def execReleaseDoff (src tag : Nat) (s : State) : Host.Outcome State Fault Refusal :=
  .next (finish (takeRequest src tag 0x49 (releaseDoff src tag) s))

/-- RELEASE naming a section (R125). -/
def execReleaseSection (src tag row : Nat) (s : State) : Host.Outcome State Fault Refusal :=
  .next (finish (takeRequest src tag 0x49 (releaseSection src tag row) s))

/-- PASS_READ (R167). -/
def execPassRead (src tag unit register count : Nat) (s : State) : Host.Outcome State Fault Refusal :=
  .next (finish (takeRequest src tag 0x4A (passRead src tag unit register count) s))

/-- PASS_WRITE (R167). -/
def execPassWrite (src tag unit register : Nat) (data : List Byte) (s : State) : Host.Outcome State Fault Refusal :=
  .next (finish (takeRequest src tag 0x4B (passWrite src tag unit register data) s))

/-- ALERT_ACK (R181). -/
def execAlertAck (src tag : Nat) (causes : List Nat) (s : State) : Host.Outcome State Fault Refusal :=
  .next (finish (takeRequest src tag 0x4C (alertAck src tag causes) s))

/-- SIDE_RESET (R177). -/
def execSideReset (src tag side : Nat) (s : State) : Host.Outcome State Fault Refusal :=
  .next (finish (takeRequest src tag 0x4D (sideResetCommand src tag side) s))

/-- RESTART (R177). -/
def execRestart (src tag : Nat) (s : State) : Host.Outcome State Fault Refusal :=
  .next (finish (takeRequest src tag 0x4E (restartCommand src tag) s))

end Sys2Proof.Machine
end

