-- ==== Sys2Proof/Machine/Sweep.lean ====
section
/-! DEFINITION. The sweep close of a side (R24), step by step: the writes due, the Rail Controller's part (R9), the
classification with its counts and notices (2.4), length, cop and roving (3), shift counting (8), the blocks' actions
of step 7 (log entry 10) and the map write of step 8 (R1); and its meaning. -/

namespace Sys2Proof.Machine

/-! ### Step 2: the Rail Controller (R9) -/

/-- The observations of a side's close; a position the close does not reach gives NO_DATA. -/
def State.observations (s : State) (sd : Side) (before : RailState) : Vector Observation 2048 :=
  tmap (fun p _ => if s.installedOn sd p then s.observation sd before p else .noData) s.spindles

/-- SENSOR_FAULT observations are counted (R14). -/
def countSensorFaults (sd : Side) (obs : Vector Observation 2048) (s : State) : State :=
  let n := ((s.positions sd).filter fun p => tget .noData obs p == .sensorFault).length
  let s1 := s.modRecord sd fun r => { r with sensorFaults := satAdd max32 r.sensorFaults n }
  { s1 with spindles := tmap (fun p r =>
      if tget .noData obs p = .sensorFault then { r with sensorFaults := satAdd 255 r.sensorFaults 1 } else r) s1.spindles }

/-- The reply window closes and its held fields are released. -/
def Rail.closeWindow (r : Rail) : Rail := { r with windowOpen := false, windowTimer := none, window := [] }

/-- The side's sweep index becomes the index of this close (R9). The records that step 1 makes carry that index, as R9 has
it of every block during the close, so it stands before step 1 (DEDUCED, log entry 74). -/
def advanceIndex (sd : Side) (s : State) : State :=
  s.modRail sd fun r => { r with sweepIndex := satAdd max32 r.sweepIndex 1 }

/-- The Rail Controller's part after the index, with the observations it hands on. -/
def railAtClose (sd : Side) (s : State) : State × Vector Observation 2048 :=
  let before := (s.railOf sd).state
  let s2 := updateHeads sd s
  let obs := s2.observations sd before
  let s3 := updateRailState sd (countSensorFaults sd obs s2)
  (s3.modRail sd Rail.closeWindow, obs)

/-! ### Step 3: classification -/

/-- The observation of a position was evaluable (R21). -/
def State.evaluable (s : State) (sd : Side) (obs : Vector Observation 2048) (p : Nat) : Bool :=
  (evaluate s.thresholds (s.lengthSide sd).held s.dc.active (tget .noData obs p)).isSome

/-- What classification makes of each position. -/
def State.classified (s : State) (sd : Side) (obs : Vector Observation 2048) : Vector ClassOut 2048 :=
  tmap (fun p r =>
    if s.installedOn sd p then
      classifyObserved s.thresholds (s.lengthSide sd).held s.dc.active (s.railOf sd).sweepIndex (s.exhausted p)
        (tget .noData obs p) r
    else { spindle := r }) s.spindles

/-- The figures that step 3 counts into the shift record (R28, R29, R31, R34). -/
def ShiftRecord.countClass (outs : List ClassOut) (r : ShiftRecord) : ShiftRecord :=
  let n (f : ClassOut → Bool) : Nat := (outs.filter f).length
  { r with
    endsDown := satAdd max32 r.endsDown (n (·.confirmed))
    doffStartDowns := satAdd max32 r.doffStartDowns (n (·.doffStart))
    rovingOutEvents := satAdd max32 r.rovingOutEvents (n fun o => o.confirmed && o.spindle.state == .rovingOut)
    piecedOther := satAdd max32 r.piecedOther (n fun o => o.handPieced || o.handCreeled)
    falsePieces := satAdd max32 r.falsePieces (n (·.falsePiece))
    redEvents := satAdd max32 r.redEvents (n fun o => o.falsePiece && o.spindle.state == .red) }

/-- The spindles of a close for each receiver, in ascending order (2.4.3). -/
structure Notices where
  confirmedDown : List Nat
  rovingOut : List Nat
  handPieced : List Nat
  handCreeled : List Nat
  falsePieces : List Nat
  reds : List Nat
  moved : Nat
  confirmed : Nat
deriving DecidableEq, Repr

/-- The notices gathered, and what the other blocks count. -/
def gather (ps : List Nat) (out : Nat → ClassOut) : Notices :=
  let pick (f : ClassOut → Bool) : List Nat := ps.filter fun p => f (out p)
  { confirmedDown := pick fun o => o.confirmed && o.spindle.state == .down
    rovingOut := pick fun o => o.confirmed && o.spindle.state == .rovingOut
    handPieced := pick (·.handPieced)
    handCreeled := pick (·.handCreeled)
    falsePieces := pick (·.falsePiece)
    reds := pick fun o => o.falsePiece && o.spindle.state == .red
    moved := (ps.map fun p => (out p).moved).sum
    confirmed := (pick (·.confirmed)).length }

/-- Step 3. -/
def classifySide (sd : Side) (obs : Vector Observation 2048) (s : State) : State × Notices :=
  let outs := s.classified sd obs
  let out (p : Nat) : ClassOut := tget { spindle := {} } outs p
  let s1 : State := { s with spindles := tmap (fun _ o => o.spindle) outs }
  (s1.modRecord sd (ShiftRecord.countClass ((s.positions sd).map out)), gather (s.positions sd) out)

/-! ### Step 7: the blocks -/

/-- The SPINDLE_RED reports of a close (R34). -/
def reportReds (sd : Side) (ps : List Nat) (s : State) : State :=
  ps.foldl (fun x p => postEvent (.spindleRed sd p (x.spindle p).attempts (x.railOf sd).sweepIndex) x) s

/-- Step 7: the Spindle Table hands its notices, then the Drive Ceiling Unit, the Piecing Dispatcher, the Creel
Controller and the Doff Controller act, and the Drive Ceiling Unit takes the rate of an ended block (log entry 10). -/
def blocksAtClose (sd : Side) (n : Notices) (rate : Option Nat) (s : State) : State :=
  let s1 := ceilingAtClose sd (reportReds sd n.reds s)
  let s2 := piecingAtClose sd n.handPieced n.falsePieces n.confirmedDown s1
  let s3 := doffAtClose sd (creelAtClose sd n.rovingOut n.handCreeled s2)
  match rate with
  | some r => takeRate sd r s3
  | none => s3

/-! ### The close -/

/-- Steps 2 to 7 of the close, after the index. -/
def closeSweep (sd : Side) (s : State) : State :=
  let (s2, obs) := railAtClose sd s
  let ev := s2.evaluable sd obs
  let (s3, n) := classifySide sd obs s2
  let (s5, totals) := lengthAtClose sd n.moved s3
  let (s6, rate) := shiftAtClose sd totals ev n.confirmed s5
  blocksAtClose sd n rate s6

/-- The sweep close of a side (R24). A side that is IDLE or whose window is not open has none (R9, R16). -/
def sweepClose (sd : Side) (s : State) : State :=
  if s.configured sd && (s.railOf sd).windowOpen then
    let s0 := advanceIndex sd s
    let idx := (s0.railOf sd).sweepIndex
    let s1 := completeDue sd idx (TableWrite.dueAt sd) s0
    conclude (completeDue sd idx (TableWrite.mapDueAt sd) (closeSweep sd s1))
  else s

/-! ### Meaning -/

/-- SWEEP_CLOSE (R24). -/
def execSweepClose (side : Side) (s : State) : Host.Outcome State Fault Refusal := .next (finish (sweepClose side s))

end Sys2Proof.Machine
end

