-- ==== Sys2Proof/Machine/Line.lean ====
section
/-! DEFINITION. The mill line (chapter 10): links (R171), forwarding and taking in (R172), the two transmitters (R173,
R179) and the restart that ends with its reply's transmission (R177); and the meanings of the line's rows. -/

namespace Sys2Proof.Machine

/-! ### Links (R171) -/

def setLink (p : Port) (x : PortState) (s : State) : State := s.modMli fun m => m.setPort p x

/-- The link of a port receives a good frame or idle fill. -/
def linkHeard (p : Port) (s : State) : State :=
  let x := s.mli.port p
  let s1 := setLink p { x with up := true, silence := some 3000 } s
  if x.up then s1 else postEvent (.linkState p true) s1

/-- Three seconds without either: the link goes DOWN; an armed restart then takes effect (R177). LINK_STATE is posted
before the restart, which empties the report queue (DESIGN CHOICE, log entry 71). -/
def linkLost (p : Port) (s : State) : State :=
  let x := s.mli.port p
  if x.up then
    let s1 := postEvent (.linkState p false) (setLink p { x with up := false, silence := none } s)
    if p = .upstream ∧ s.mli.restartArmed then warmRestart s1 else s1
  else s

/-! ### Forwarding (R172) -/

/-- A frame of another station, arriving at a port, enters the forward buffer of its direction, which holds 4. -/
def forward (p : Port) (bytes : List Byte) (s : State) : State :=
  match p with
  | .upstream =>
    if s.mli.toDownstream.length < 4 then s.modMli fun m => { m with toDownstream := m.toDownstream ++ [bytes] }
    else s.modMli fun m => { m with dropDownstream := satAdd max16 m.dropDownstream 1 }
  | .downstream =>
    if s.mli.toUpstream.length < 4 then s.modMli fun m => { m with toUpstream := m.toUpstream ++ [bytes] }
    else s.modMli fun m => { m with dropUpstream := satAdd max16 m.dropUpstream 1 }

/-- A management request by its payload; one too short for its tag and code is answered RANGE (R183, log entry
23). -/
def takePayload (src : Nat) (payload : List Byte) (s : State) : State :=
  match payload with
  | tag :: code :: args => handleRequest src tag.toNat (parseRequest code.toNat args) s
  | [tag] => handleRequest src tag.toNat (.outOfRange Config.absentCode) s
  | [] => handleRequest src Config.absentTag (.outOfRange Config.absentCode) s

/-- A transport frame by its type and payload (11.1); one too short for its type is discarded (log entry 38), and so is an
EXCHANGE_REQUEST, which is no answer of the transport (log entry 54). -/
def takeTransport (type src : Nat) (payload : List Byte) (s : State) : State :=
  match type, payload with
  | 0x11, r :: _ => takeTransportAck src r.toNat s
  | 0x12, r :: _ => takeExchStart src r.toNat s
  | 0x13, r :: n :: _ => takeExchDone src r.toNat n.toNat s
  | 0x14, r :: c :: _ => takeReject src r.toNat c.toNat s
  | _, _ => discardAnswer s

/-- A frame addressed to the part's station, by its type. -/
def takeIn (f : MillFrame) (s : State) : State :=
  let t := f.type.toNat
  if t = 0x01 then takePayload f.src.toNat f.payload s
  else if 0x10 ≤ t ∧ t ≤ 0x14 then takeTransport t f.src.toNat f.payload s
  else s.modMli fun m => { m with unknownFrame := satAdd max16 m.unknownFrame 1 }

/-- A frame arrives on a port (R171, R174, R175, R177). DESIGN CHOICE (log entry 87): a good frame on a DOWN link sets it UP,
with its LINK_STATE report, before the frame itself is forwarded or handled. -/
def receiveFrame (p : Port) (bytes : List Byte) (s : State) : State :=
  match parseMillFrame bytes with
  | none => setLink p { s.mli.port p with badFrame := satAdd max16 (s.mli.port p).badFrame 1 } s
  | some f =>
    let s1 := linkHeard p s
    if s.mli.station = 0 ∨ f.dest.toNat ≠ s.mli.station.toNat then forward p bytes s1 else takeIn f s1

/-! ### The upstream transmitter (R173, R179) -/

/-- How many frames a reply takes: a frame holds 235 bytes of data (11.1). The figures of a write, a command and a
pass-through and the two short reads fit one; the length of the other reads is open (log entry 22). -/
def ReplyData.frames : ReplyData → Nat
  | .none | .count _ | .applied _ | .pass _ _ | .unitRegister _ _ | .thresholds _ | .length _ _ => 1
  | d => clamp 1 256 ((Config.replyDataLength d + 234) / 235)

/-- The alert whose frame goes next. -/
def State.nextAlert (s : State) : Option AlertCause := alertCauses.find? fun c => (s.alert c).send

/-- The high mark is cleared, with QUEUE_RELIEF, where the fill falls below 32 (R179). -/
def relieve (s : State) : State :=
  if s.mli.highMark && s.mli.reports.length < 32 then
    raiseAlert .queueRelief none (s.modMli fun m => { m with highMark := false })
  else s

/-- The next own frame, and the state after it has left its list, flag or queue. -/
def State.nextOwn (s : State) : Option (TxFrame × State) :=
  match s.mli.replies with
  | r :: rs =>
    let last := r.data.frames ≤ r.sent + 1
    some (.reply r r.sent last,
      s.modMli fun m => { m with replies := if last then rs else { r with sent := r.sent + 1 } :: rs })
  | [] =>
    match s.nextAlert with
    | some c =>
      let r := s.alert c
      some (.alert c r.occurrences r.detail, s.setAlert c { r with send := false })
    | none =>
      match s.mli.transport with
      | f :: fs => some (.transport f, s.modMli fun m => { m with transport := fs })
      | [] =>
        match s.mli.reports with
        | r :: rs => some (.report r, relieve (s.modMli fun m => { m with reports := rs }))
        | [] => none

/-- An own frame may be taken: the upstream link is UP. -/
def State.ownFrame (s : State) : Option (TxFrame × State) := if s.mli.upstream.up then s.nextOwn else none

/-- The transmission of an own frame begins. -/
def sendOwn (f : TxFrame) (s : State) : State := s.modMli fun m => { m with upTx := some f, lastOwn := true }

/-- The transmission of a forwarded frame begins. -/
def sendForwarded (b : List Byte) (rest : List (List Byte)) (s : State) : State :=
  s.modMli fun m => { m with toUpstream := rest, upTx := some (.forwarded b), lastOwn := false }

/-- The next frame on the upstream transmitter is chosen (R173). -/
def chooseUpstream (s : State) : State :=
  match s.mli.toUpstream, s.ownFrame with
  | b :: rest, some (f, s1) => if s.mli.lastOwn then sendForwarded b rest s else sendOwn f s1
  | b :: rest, none => sendForwarded b rest s
  | [], some (f, s1) => sendOwn f s1
  | [], none => s.modMli fun m => { m with upTx := none }

/-- The frame that ended was the last of an accepted RESTART's reply, and the restart is still to take effect. -/
def MillLine.endsRestart (m : MillLine) : Bool :=
  m.restartArmed && match m.upTx with
    | some (.reply r _ last) => r.restart && last
    | _ => false

/-- A frame ends on the upstream transmitter. -/
def endUpstream (s : State) : State := chooseUpstream (if s.mli.endsRestart then warmRestart s else s)

/-- A frame ends on the downstream transmitter, which carries forwarded frames only. -/
def endDownstream (s : State) : State :=
  match s.mli.toDownstream with
  | b :: rest => s.modMli fun m => { m with toDownstream := rest, downTx := some b }
  | [] => s.modMli fun m => { m with downTx := none }

/-! ### Meanings -/

/-- IDLE_FILL (R171). -/
def execIdleFill (port : Port) (s : State) : Host.Outcome State Fault Refusal := .next (finish (linkHeard port s))

/-- LINK_TIMEOUT (R171, R177). -/
def execLinkTimeout (port : Port) (s : State) : Host.Outcome State Fault Refusal := .next (finish (linkLost port s))

/-- MILL_LINE_FRAME (R171, R172, R174, R183). -/
def execMillLineFrame (port : Port) (frame : List Byte) (s : State) : Host.Outcome State Fault Refusal :=
  .next (finish (receiveFrame port frame s))

/-- UPSTREAM_FRAME_END (R173, R177, R179). -/
def execUpstreamFrameEnd (s : State) : Host.Outcome State Fault Refusal := .next (finish (endUpstream s))

/-- DOWNSTREAM_FRAME_END (R172). -/
def execDownstreamFrameEnd (s : State) : Host.Outcome State Fault Refusal := .next (finish (endDownstream s))

end Sys2Proof.Machine
end

