-- ==== Sys2Proof/Machine/Clock.lean ====
section
/-! DEFINITION. The part's 10 ms time base (00, Units; DESIGN CHOICE, log entry 4): what a step does on an empty
command queue. A timer that has run down has its expiry taken; where none has, 10 ms pass, in which every running timer
runs on and every panel line is sampled (R144). A timer that another event stops or restarts before its expiry is taken
has no expiry (R18, R79, R124, R141). -/

namespace Sys2Proof.Machine

/-! ### Expiries -/

/-- The timer has run down and its expiry has not been taken. -/
def Timer.expired (t : Timer) : Bool := t == some 0

/-- The command of an event that is due. -/
def dueIf (due : Bool) (i : Instr) : List Instr := if due then [i] else []

/-- The expiries of a side: its sweep close, or in the rail gap its sweep start. -/
def Rail.due (sd : Side) (r : Rail) : List Instr :=
  dueIf (r.installed != 0 && r.windowOpen && Timer.expired r.windowTimer) (.sweepClose sd) ++
    dueIf (r.installed != 0 && !r.windowOpen && Timer.expired r.sweepTimer) (.sweepStart sd)

def Channel.due (c : Nat) (x : Channel) : List Instr :=
  dueIf (x.state == .busy && Timer.expired x.jobTimer) (.jobTimerExpiry c) ++
    dueIf (x.state == .cancelling && Timer.expired x.cancelTimer) (.cancelTimerExpiry c)

def DoffUnit.due (d : DoffUnit) : List Instr :=
  dueIf (d.state == .full && Timer.expired d.stopTimer) .stopTimerExpiry ++
    dueIf (d.state == .full && Timer.expired d.clearTimer) .clearTimerExpiry ++
    dueIf (d.state == .doffing && Timer.expired d.doffTimer) .doffTimerExpiry

def Section.due (r : Nat) (x : Section) : List Instr :=
  dueIf ((x.state == .requested || x.state == .exchanging) && Timer.expired x.transportTimer) (.transportTimerExpiry r) ++
    dueIf (Timer.expired x.backoffTimer) (.backoffTimerExpiry r)

def PortState.due (p : Port) (x : PortState) : List Instr := dueIf (x.up && Timer.expired x.silence) (.linkTimeout p)

/-! ### The panel lines (R144) -/

/-- The panel lines. -/
def panelLines : List PanelLine := [.panelStop, .doffCall, .creelDone, .lampTest]

/-- The row of a panel line. -/
def PanelLine.command : PanelLine → Bool → Instr
  | .panelStop, level => .panelStop level
  | .doffCall, level => .doffCall level
  | .creelDone, level => .creelDone level
  | .lampTest, level => .lampTest level

/-- How many samples make the 50 ms (log entry 40). -/
def debounceSamples : Nat := 5

/-- A sample of a line whose debounced level is `level`: one more sample of the other level, or the count starts again. -/
def PanelInput.sample (level : Bool) (x : PanelInput) : PanelInput :=
  { x with samples := if x.raw = level then 0 else min debounceSamples (x.samples + 1) }

/-- The line has shown a level other than the debounced one for 50 ms. -/
def PanelInput.settled (level : Bool) (x : PanelInput) : Bool := x.raw != level && debounceSamples ≤ x.samples

/-- The change of a debounced level that is due. -/
def CeilingUnit.panelDue (d : CeilingUnit) (x : PanelLine) : List Instr :=
  dueIf ((d.inputs.get x).settled (d.lines.level x)) (x.command (d.inputs.get x).raw)

/-- The four lines are sampled. -/
def CeilingUnit.sampled (d : CeilingUnit) : CeilingUnit :=
  { d with inputs := panelLines.foldl (fun i x => i.set x ((i.get x).sample (d.lines.level x))) d.inputs }

/-! ### The part -/

/-- The events that are due, in the order in which they are taken. -/
def State.due (s : State) : List Instr :=
  s.rail.a.due .a ++ s.rail.b.due .b
    ++ dueIf (s.sbm.cycleTimer == 0) .pollCycleStart
    ++ channelNumbers.flatMap (fun c => (s.channel c).due c)
    ++ s.dc.due
    ++ sectionNumbers.flatMap (fun r => (s.creelSection r).due r)
    ++ dueIf (s.cc.inFlight.isSome && Timer.expired s.cc.changeTimer) .changeTimerExpiry
    ++ dueIf (Timer.expired s.dcu.graceTimer) .graceTimerExpiry
    ++ s.mli.upstream.due .upstream ++ s.mli.downstream.due .downstream
    ++ panelLines.flatMap s.dcu.panelDue

/-- A running timer 10 ms later; it stays at 0 until its expiry is taken. -/
def Timer.tick : Timer → Timer
  | some n => some (n - 10)
  | none => none

def Rail.tick (r : Rail) : Rail := { r with windowTimer := r.windowTimer.tick, sweepTimer := r.sweepTimer.tick }

def Channel.tick (x : Channel) : Channel := { x with jobTimer := x.jobTimer.tick, cancelTimer := x.cancelTimer.tick }

def DoffUnit.tick (d : DoffUnit) : DoffUnit :=
  { d with stopTimer := d.stopTimer.tick, clearTimer := d.clearTimer.tick, doffTimer := d.doffTimer.tick }

def Section.tick (x : Section) : Section :=
  { x with transportTimer := x.transportTimer.tick, backoffTimer := x.backoffTimer.tick }

def CeilingUnit.tick (d : CeilingUnit) : CeilingUnit := { d.sampled with graceTimer := d.graceTimer.tick }

def PortState.tick (x : PortState) : PortState := { x with silence := x.silence.tick }

/-- Ten milliseconds pass. -/
def tick (s : State) : State :=
  { s with
    rail := ⟨s.rail.a.tick, s.rail.b.tick⟩
    pd := { s.pd with channels := tmap (fun _ x => x.tick) s.pd.channels }
    dc := s.dc.tick
    cc := { s.cc with sections := tmap (fun _ x => x.tick) s.cc.sections, changeTimer := s.cc.changeTimer.tick }
    dcu := s.dcu.tick
    sbm := { s.sbm with cycleTimer := s.sbm.cycleTimer - 10 }
    mli := { s.mli with upstream := s.mli.upstream.tick, downstream := s.mli.downstream.tick } }

end Sys2Proof.Machine
end

