-- ==== Sys2Proof/Machine/Dispatch.lean ====
section
/-! DEFINITION. One arm per command of the table: each calls its meaning. -/

namespace Sys2Proof.Machine

/-- The meaning of each command. -/
def exec (i : Instr) (s : State) : Host.Outcome State Fault Refusal :=
  match i with
  | .powerOn straps => Sys2Proof.Machine.execPowerOn straps s
  | .warmRestart => Sys2Proof.Machine.execWarmRestart s
  | .sweepStart side => Sys2Proof.Machine.execSweepStart side s
  | .sweepClose side => Sys2Proof.Machine.execSweepClose side s
  | .headReplyBlock side block => Sys2Proof.Machine.execHeadReplyBlock side block s
  | .encoderPulse => Sys2Proof.Machine.execEncoderPulse s
  | .pollCycleStart => Sys2Proof.Machine.execPollCycleStart s
  | .goodAnswer frame => Sys2Proof.Machine.execGoodAnswer frame s
  | .missedAnswer => Sys2Proof.Machine.execMissedAnswer s
  | .missedPollsLimit addr => Sys2Proof.Machine.execMissedPollsLimit addr s
  | .accept addr cause seq => Sys2Proof.Machine.execAccept addr cause seq s
  | .done addr cause seq outcome => Sys2Proof.Machine.execDone addr cause seq outcome s
  | .position addr cause spindle direction => Sys2Proof.Machine.execPosition addr cause spindle direction s
  | .status addr cause ready => Sys2Proof.Machine.execStatus addr cause ready s
  | .ready addr cause => Sys2Proof.Machine.execReady addr cause s
  | .doffDone addr cause => Sys2Proof.Machine.execDoffDone addr cause s
  | .fault addr cause => Sys2Proof.Machine.execFault addr cause s
  | .actual addr cause mode stopped atDoff driveFault => Sys2Proof.Machine.execActual addr cause mode stopped atDoff driveFault s
  | .creelChangerDone addr cause spindle => Sys2Proof.Machine.execCreelChangerDone addr cause spindle s
  | .creelChangerFailed addr cause spindle => Sys2Proof.Machine.execCreelChangerFailed addr cause spindle s
  | .passThroughReply addr cause status data => Sys2Proof.Machine.execPassThroughReply addr cause status data s
  | .offerWithdrawn channel => Sys2Proof.Machine.execOfferWithdrawn channel s
  | .passTimeout => Sys2Proof.Machine.execPassTimeout s
  | .jobTimerExpiry channel => Sys2Proof.Machine.execJobTimerExpiry channel s
  | .cancelTimerExpiry channel => Sys2Proof.Machine.execCancelTimerExpiry channel s
  | .stopTimerExpiry => Sys2Proof.Machine.execStopTimerExpiry s
  | .clearTimerExpiry => Sys2Proof.Machine.execClearTimerExpiry s
  | .doffTimerExpiry => Sys2Proof.Machine.execDoffTimerExpiry s
  | .transportTimerExpiry row => Sys2Proof.Machine.execTransportTimerExpiry row s
  | .backoffTimerExpiry row => Sys2Proof.Machine.execBackoffTimerExpiry row s
  | .changeTimerExpiry => Sys2Proof.Machine.execChangeTimerExpiry s
  | .graceTimerExpiry => Sys2Proof.Machine.execGraceTimerExpiry s
  | .linkTimeout port => Sys2Proof.Machine.execLinkTimeout port s
  | .headLost side head => Sys2Proof.Machine.execHeadLost side head s
  | .huntLimit side => Sys2Proof.Machine.execHuntLimit side s
  | .settleSweepsReached => Sys2Proof.Machine.execSettleSweepsReached s
  | .dwellDrop row => Sys2Proof.Machine.execDwellDrop row s
  | .rateBlockEnd side => Sys2Proof.Machine.execRateBlockEnd side s
  | .disobeyLimit mode => Sys2Proof.Machine.execDisobeyLimit mode s
  | .panelStop level => Sys2Proof.Machine.execPanelStop level s
  | .doffCall level => Sys2Proof.Machine.execDoffCall level s
  | .creelDone level => Sys2Proof.Machine.execCreelDone level s
  | .lampTest level => Sys2Proof.Machine.execLampTest level s
  | .idleFill port => Sys2Proof.Machine.execIdleFill port s
  | .millLineFrame port frame => Sys2Proof.Machine.execMillLineFrame port frame s
  | .upstreamFrameEnd => Sys2Proof.Machine.execUpstreamFrameEnd s
  | .downstreamFrameEnd => Sys2Proof.Machine.execDownstreamFrameEnd s
  | .transportAck src row => Sys2Proof.Machine.execTransportAck src row s
  | .exchStart src row => Sys2Proof.Machine.execExchStart src row s
  | .exchDone src row replaced => Sys2Proof.Machine.execExchDone src row replaced s
  | .reject src row reason => Sys2Proof.Machine.execReject src row reason s
  | .unknownTable src tag code => Sys2Proof.Machine.execUnknownTable src tag code s
  | .thresholdsWrite src tag w => Sys2Proof.Machine.execThresholdsWrite src tag w s
  | .unitsWrite src tag address role => Sys2Proof.Machine.execUnitsWrite src tag address role s
  | .ceilingRowsWrite src tag row enable lock dwellMin => Sys2Proof.Machine.execCeilingRowsWrite src tag row enable lock dwellMin s
  | .articleActiveWrite src tag w => Sys2Proof.Machine.execArticleActiveWrite src tag w s
  | .articleNextWrite src tag w => Sys2Proof.Machine.execArticleNextWrite src tag w s
  | .articleNextEmpty src tag => Sys2Proof.Machine.execArticleNextEmpty src tag s
  | .alertEnable src tag causes => Sys2Proof.Machine.execAlertEnable src tag causes s
  | .spindleMapWrite src tag side installed rovingStop => Sys2Proof.Machine.execSpindleMapWrite src tag side installed rovingStop s
  | .zoneTableWrite src tag row w => Sys2Proof.Machine.execZoneTableWrite src tag row w s
  | .sectionTableWrite src tag row w => Sys2Proof.Machine.execSectionTableWrite src tag row w s
  | .maskTableWrite src tag first last override => Sys2Proof.Machine.execMaskTableWrite src tag first last override s
  | .readThresholds src tag => Sys2Proof.Machine.execReadThresholds src tag s
  | .lengthStatus src tag => Sys2Proof.Machine.execLengthStatus src tag s
  | .piecingStatus src tag => Sys2Proof.Machine.execPiecingStatus src tag s
  | .doffStatus src tag => Sys2Proof.Machine.execDoffStatus src tag s
  | .ceilingStatus src tag => Sys2Proof.Machine.execCeilingStatus src tag s
  | .shiftStatus src tag => Sys2Proof.Machine.execShiftStatus src tag s
  | .busStatus src tag => Sys2Proof.Machine.execBusStatus src tag s
  | .railStatus src tag side => Sys2Proof.Machine.execRailStatus src tag side s
  | .creelStatus src tag first last => Sys2Proof.Machine.execCreelStatus src tag first last s
  | .spindleRecords src tag first last => Sys2Proof.Machine.execSpindleRecords src tag first last s
  | .lineStatus src tag => Sys2Proof.Machine.execLineStatus src tag s
  | .shiftClose src tag => Sys2Proof.Machine.execShiftClose src tag s
  | .doffNow src tag => Sys2Proof.Machine.execDoffNow src tag s
  | .doffDefer src tag => Sys2Proof.Machine.execDoffDefer src tag s
  | .presetBuild src tag length => Sys2Proof.Machine.execPresetBuild src tag length s
  | .spindleMask src tag first last kind => Sys2Proof.Machine.execSpindleMask src tag first last kind s
  | .spindleUnmask src tag first last => Sys2Proof.Machine.execSpindleUnmask src tag first last s
  | .clearRed src tag first last => Sys2Proof.Machine.execClearRed src tag first last s
  | .holdSet src tag channel => Sys2Proof.Machine.execHoldSet src tag channel s
  | .holdClear src tag channel => Sys2Proof.Machine.execHoldClear src tag channel s
  | .blockSet src tag channel => Sys2Proof.Machine.execBlockSet src tag channel s
  | .blockClear src tag channel => Sys2Proof.Machine.execBlockClear src tag channel s
  | .autoHoldSet src tag channel => Sys2Proof.Machine.execAutoHoldSet src tag channel s
  | .autoHoldClear src tag channel => Sys2Proof.Machine.execAutoHoldClear src tag channel s
  | .seqSet src tag channel value => Sys2Proof.Machine.execSeqSet src tag channel value s
  | .ceilingOverride src tag mode => Sys2Proof.Machine.execCeilingOverride src tag mode s
  | .releaseCeilingRow src tag row => Sys2Proof.Machine.execReleaseCeilingRow src tag row s
  | .releaseDoff src tag => Sys2Proof.Machine.execReleaseDoff src tag s
  | .releaseSection src tag row => Sys2Proof.Machine.execReleaseSection src tag row s
  | .passRead src tag unit register count => Sys2Proof.Machine.execPassRead src tag unit register count s
  | .passWrite src tag unit register data => Sys2Proof.Machine.execPassWrite src tag unit register data s
  | .alertAck src tag causes => Sys2Proof.Machine.execAlertAck src tag causes s
  | .sideReset src tag side => Sys2Proof.Machine.execSideReset src tag side s
  | .restart src tag => Sys2Proof.Machine.execRestart src tag s

end Sys2Proof.Machine
end

