-- ==== Sys2Proof/Machine/Step.lean ====
section
/-! DEFINITION. One step of the part: the command at the front of the queue; where none waits, the first event of the
part's own time base that is due, or 10 ms of it (DESIGN CHOICE, log entry 4); and a table word's command put in front
(log entry 5). -/

namespace Sys2Proof.Machine

/-- A step with no command waiting: the first event that is due is taken, or the time base ticks. -/
def idleStep (s : State) : Host.Outcome State Fault Refusal :=
  match s.due with
  | [] => .next (tick s)
  | i :: _ => exec i s

/-- The command at the front of the queue is executed on the rest; on an empty queue the time base goes on. -/
def step (s : State) : Host.Outcome State Fault Refusal :=
  match s.pending with
  | [] => idleStep s
  | i :: rest => exec i { s with pending := rest }

/-- The state with the command a table word spells at the front of its queue; unchanged where the word spells none. -/
def State.withFetchWord (s : State) (nbits w : Nat) : State :=
  match Sys2Proof.decodeTableWord nbits w with
  | some i => { s with pending := i :: s.pending }
  | none => s

end Sys2Proof.Machine
end

