-- ==== Sys2Proof/Safety.lean ====
section
/-! DEFINITION. What the claims say of a state and of a command, in the terms of the manual: the pieces of the state a
command may change (its frame), the conditions under which a management request is taken and answered, the conditions
under which a unit's answer is taken, and the invariants of the part. -/

namespace Sys2Proof.Machine

/-! ### Frames -/

/-- The pieces of the state that frames name. The output lines and the ROVING_LAMP fact are no piece: every event sets
them from the facts (R128, R142, R143), and `linesAgree` says what they then are. -/
inductive Part where
  | thresholds | rail (sd : Side) | spindles | pulses | length (sd : Side)
  | zones | queues | channels | downLoad
  | doff | creel | bobbins
  | rows | rates | drive | panel
  | shift | units | cycle | pass
  | reports | alerts | replies | transport | line | writes | waiting
deriving DecidableEq, Repr

/-- Two states hold the same in a piece. -/
def State.agrees (s t : State) : Part → Prop
  | .thresholds => t.thresholds = s.thresholds
  | .rail sd => t.railOf sd = s.railOf sd
  | .spindles => t.spindles = s.spindles
  | .pulses => t.lu.pulses = s.lu.pulses
  | .length sd => t.lengthSide sd = s.lengthSide sd
  | .zones => t.pd.zones = s.pd.zones
  | .queues => t.pd.queues = s.pd.queues
  | .channels => t.pd.channels = s.pd.channels ∧ t.pd.protection = s.pd.protection
  | .downLoad => t.pd.downLoad = s.pd.downLoad
  | .doff => t.dc = s.dc
  | .creel => { t.cc with rovingLamp := false } = { s.cc with rovingLamp := false }
  | .bobbins => t.bobbins = s.bobbins
  | .rows => t.dcu.rows = s.dcu.rows ∧ t.dcu.ceiling = s.dcu.ceiling ∧ t.dcu.positioning = s.dcu.positioning
      ∧ t.dcu.reevaluate = s.dcu.reevaluate
  | .rates => t.dcu.rates = s.dcu.rates
  | .drive => t.dcu.lastActual = s.dcu.lastActual ∧ t.dcu.confirmed = s.dcu.confirmed
      ∧ t.dcu.disobey = s.dcu.disobey ∧ t.dcu.graceTimer = s.dcu.graceTimer
      ∧ t.dcu.graceExpired = s.dcu.graceExpired ∧ t.dcu.startPending = s.dcu.startPending
  | .panel => t.dcu.lines.panelStop = s.dcu.lines.panelStop ∧ t.dcu.lines.doffCall = s.dcu.lines.doffCall
      ∧ t.dcu.lines.creelDone = s.dcu.lines.creelDone ∧ t.dcu.lines.lampTest = s.dcu.lines.lampTest
      ∧ t.dcu.inputs = s.dcu.inputs
  | .shift => t.sau = s.sau
  | .units => t.sbm.units = s.sbm.units
  | .cycle => t.sbm.cycle = s.sbm.cycle ∧ t.sbm.begun = s.sbm.begun ∧ t.sbm.cycleTimer = s.sbm.cycleTimer
      ∧ t.sbm.exchanges = s.sbm.exchanges ∧ t.sbm.current = s.sbm.current
  | .pass => t.sbm.pass = s.sbm.pass
  | .reports => t.mli.reports = s.mli.reports ∧ t.mli.highMark = s.mli.highMark ∧ t.mli.eventGap = s.mli.eventGap
      ∧ t.mli.recordGap = s.mli.recordGap
  | .alerts => t.mli.alerts = s.mli.alerts
  | .replies => t.mli.replies = s.mli.replies ∧ t.mli.replyDrop = s.mli.replyDrop
  | .transport => t.mli.transport = s.mli.transport ∧ t.mli.transportDrop = s.mli.transportDrop
  | .line => t.mli.station = s.mli.station ∧ t.mli.upstream = s.mli.upstream ∧ t.mli.downstream = s.mli.downstream
      ∧ t.mli.toUpstream = s.mli.toUpstream ∧ t.mli.toDownstream = s.mli.toDownstream
      ∧ t.mli.dropUpstream = s.mli.dropUpstream ∧ t.mli.dropDownstream = s.mli.dropDownstream
      ∧ t.mli.unknownFrame = s.mli.unknownFrame ∧ t.mli.lastOwn = s.mli.lastOwn ∧ t.mli.upTx = s.mli.upTx
      ∧ t.mli.downTx = s.mli.downTx
  | .writes => t.mli.deferred = s.mli.deferred ∧ t.mli.restartArmed = s.mli.restartArmed
  | .waiting => t.pending = s.pending

/-- From `s` to `t` nothing changes but, it may be, the pieces listed. -/
def State.changesOnly (ps : List Part) (s t : State) : Prop := ∀ p, p ∉ ps → s.agrees t p

/-! ### Management requests -/

/-- A management request that arrives now is executed, and the reply list has room for its reply (R173, R174, R177). -/
def State.accepts (s : State) : Prop := s.placesHeld < 4 ∧ s.mli.restartArmed = false ∧ s.mli.replies.length < 8

/-- From `s` to `t` one reply is made: to station `src`, with the request's tag and code (10.4). -/
def State.answers (s t : State) (src tag code : Nat) (c : ReplyCode) (d : ReplyData) : Prop :=
  t.mli.replies = s.mli.replies ++ [mkReply src tag code c d] ∧ t.mli.replyDrop = s.mli.replyDrop

/-- The management requests of the table, with the station, the tag and the request code of each (11.5). -/
def Instr.request : Instr → Option (Nat × Nat × Nat)
  | .unknownTable s t c => some (s, t, c)
  | .thresholdsWrite s t _ => some (s, t, 0x01)
  | .unitsWrite s t _ _ => some (s, t, 0x02)
  | .ceilingRowsWrite s t _ _ _ _ => some (s, t, 0x03)
  | .articleActiveWrite s t _ => some (s, t, 0x04)
  | .articleNextWrite s t _ => some (s, t, 0x04)
  | .articleNextEmpty s t => some (s, t, 0x04)
  | .alertEnable s t _ => some (s, t, 0x05)
  | .spindleMapWrite s t _ _ _ => some (s, t, 0x06)
  | .zoneTableWrite s t _ _ => some (s, t, 0x07)
  | .sectionTableWrite s t _ _ => some (s, t, 0x08)
  | .maskTableWrite s t _ _ _ => some (s, t, 0x09)
  | .readThresholds s t => some (s, t, 0x20)
  | .lengthStatus s t => some (s, t, 0x21)
  | .piecingStatus s t => some (s, t, 0x22)
  | .doffStatus s t => some (s, t, 0x23)
  | .ceilingStatus s t => some (s, t, 0x24)
  | .shiftStatus s t => some (s, t, 0x25)
  | .busStatus s t => some (s, t, 0x26)
  | .railStatus s t _ => some (s, t, 0x27)
  | .creelStatus s t _ _ => some (s, t, 0x28)
  | .spindleRecords s t _ _ => some (s, t, 0x29)
  | .lineStatus s t => some (s, t, 0x2A)
  | .shiftClose s t => some (s, t, 0x40)
  | .doffNow s t => some (s, t, 0x41)
  | .doffDefer s t => some (s, t, 0x42)
  | .presetBuild s t _ => some (s, t, 0x43)
  | .spindleMask s t _ _ _ => some (s, t, 0x44)
  | .spindleUnmask s t _ _ => some (s, t, 0x45)
  | .clearRed s t _ _ => some (s, t, 0x46)
  | .holdSet s t _ => some (s, t, 0x47)
  | .holdClear s t _ => some (s, t, 0x47)
  | .blockSet s t _ => some (s, t, 0x47)
  | .blockClear s t _ => some (s, t, 0x47)
  | .autoHoldSet s t _ => some (s, t, 0x47)
  | .autoHoldClear s t _ => some (s, t, 0x47)
  | .seqSet s t _ _ => some (s, t, 0x47)
  | .ceilingOverride s t _ => some (s, t, 0x48)
  | .releaseCeilingRow s t _ => some (s, t, 0x49)
  | .releaseDoff s t => some (s, t, 0x49)
  | .releaseSection s t _ => some (s, t, 0x49)
  | .passRead s t _ _ _ => some (s, t, 0x4A)
  | .passWrite s t _ _ _ => some (s, t, 0x4B)
  | .alertAck s t _ => some (s, t, 0x4C)
  | .sideReset s t _ => some (s, t, 0x4D)
  | .restart s t => some (s, t, 0x4E)
  | .powerOn _ | .warmRestart | .sweepStart _ | .sweepClose _ | .headReplyBlock _ _ | .encoderPulse | .pollCycleStart
  | .goodAnswer _ | .missedAnswer | .missedPollsLimit _ | .accept _ _ _ | .done _ _ _ _ | .position _ _ _ _
  | .status _ _ _ | .ready _ _ | .doffDone _ _ | .fault _ _ | .actual _ _ _ _ _ _ | .creelChangerDone _ _ _
  | .creelChangerFailed _ _ _ | .passThroughReply _ _ _ _ | .offerWithdrawn _ | .passTimeout | .jobTimerExpiry _
  | .cancelTimerExpiry _ | .stopTimerExpiry | .clearTimerExpiry | .doffTimerExpiry | .transportTimerExpiry _
  | .backoffTimerExpiry _ | .changeTimerExpiry | .graceTimerExpiry | .linkTimeout _ | .headLost _ _ | .huntLimit _
  | .settleSweepsReached | .dwellDrop _ | .rateBlockEnd _ | .disobeyLimit _ | .panelStop _ | .doffCall _
  | .creelDone _ | .lampTest _ | .idleFill _ | .millLineFrame _ _ | .upstreamFrameEnd | .downstreamFrameEnd
  | .transportAck _ _ | .exchStart _ _ | .exchDone _ _ _ | .reject _ _ _ => none

/-- The command names installed spindles of one side, the first not after the last (R38). -/
def State.names (s : State) (first last : Nat) : Prop :=
  first ≤ last ∧ last < 2048 ∧ sideOf first = sideOf last ∧
    last < (sideOf last).base + (s.railOf (sideOf last)).installed

/-! ### Events that end -/

/-- Nothing is left to do at the end of an event: every channel that could make an offer has made it (R70), and the Doff
Controller knows its two facts as they are (R83, R138). Every event that may change a channel or the drive ends so. -/
def State.quiet (s : State) : Prop :=
  (∀ c ∈ channelNumbers, s.mayOffer c = false) ∧ s.dc.driveAtDoff = s.driveAtDoffFact
    ∧ s.dc.carriagesClear = s.carriagesClearFact

/-! ### Posting -/

/-- From `s` to `t` EVENTs with these bodies are appended to the report queue, the first carrying the present event_gap
(R178). -/
def State.posts (s t : State) (bs : List ReportBody) : Prop :=
  t.mli.reports = s.mli.reports ++
    (match bs with
      | [] => []
      | b :: rest => ⟨false, s.mli.eventGap, b⟩ :: rest.map fun x => ⟨false, 0, x⟩)

/-- The alert record of a cause after one new occurrence (R180). -/
def State.occurs (s t : State) (c : AlertCause) (detail : Option Nat) : Prop := t.alert c = (s.alert c).occur detail

/-! ### The rail -/

/-- The head was good for the window: it was given a good block and was not marked errored (1.6). -/
def Rail.goodHead (r : Rail) (h : Nat) : Bool :=
  match r.window.getD h .unanswered with
  | .answered _ => true
  | _ => false

/-! ### The service bus -/

/-- The exchange in progress is a poll of an ONLINE unit of this role. -/
def State.polls (s : State) (x : Exchange) (r : Role) : Prop :=
  s.sbm.current = some x ∧ x.probe = false ∧ 1 ≤ x.addr ∧ x.addr ≤ 7 ∧ (s.unit x.addr).role = r
    ∧ (s.unit x.addr).state = .online

/-- The exchange in progress is a poll of an ONLINE unit of this role, which last reported the cause flag that its answer
reports now, and nothing else is under way on the bus. -/
def State.answersPoll (s : State) (x : Exchange) (r : Role) (cause : Bool) : Prop :=
  s.polls x r ∧ (s.unit x.addr).causeFlag = cause ∧ s.sbm.pass = none ∧ s.quiet

/-- From `s` to `t` a good answer to the poll `x` has been taken: the unit is ONLINE with no missed poll, the part's
answer `code` waits for its next poll (R163, R164), and the exchanges of the cycle that are still owed are one fewer. -/
def State.answered (s t : State) (x : Exchange) (code : Option AnswerCode) : Prop :=
  (t.unit x.addr).state = .online ∧ (t.unit x.addr).missedPolls = 0 ∧ (t.unit x.addr).answer = code
    ∧ t.sbm.exchanges = s.sbm.exchanges.tail

/-! ### Invariants -/

/-- The output lines stand as their facts drive them (R128, R142, R143). -/
def State.linesAgree (s : State) : Prop := s.cc.rovingLamp = s.rovingLampFact ∧ s.dcu.lines = s.drivenLines

/-- The sent ceiling and its flag are the effective ceiling's (R134). -/
def State.ceilingAgrees (s : State) : Prop :=
  s.dcu.ceiling = s.effectiveCeiling ∧ s.dcu.positioning = s.effectivePositioning

/-- No channel stands in the condition of R70: each that could make an offer has made it. -/
def State.offersMade (s : State) : Prop := ∀ c ∈ channelNumbers, s.mayOffer c = false

/-- The transport request queue holds at most 64 entries, each for a section of its own (R119), and the order of the
stalled sections names each of them once (R125). -/
def CreelUnit.sectionsOnce (c : CreelUnit) : Prop :=
  (c.queue.map (·.row)).Nodup ∧ (∀ e ∈ c.queue, e.row < 64) ∧ c.queue.length ≤ 64
    ∧ c.stalled.Nodup ∧ ∀ r ∈ c.stalled, r < 64

/-- The lists that hold a stated number of entries hold no more (R64, R119, R126, R172, R173, R174, R178). -/
def State.listsBounded (s : State) : Prop :=
  s.mli.reports.length ≤ 128 ∧ s.mli.replies.length ≤ 8 ∧ s.mli.transport.length ≤ 8
    ∧ s.mli.toUpstream.length ≤ 4 ∧ s.mli.toDownstream.length ≤ 4 ∧ s.placesHeld ≤ 4
    ∧ s.cc.listLength ≤ 32 ∧ s.cc.sectionsOnce
    ∧ ∀ c ∈ channelNumbers, (s.breakQueue c).length ≤ 64

/-- Every spindle's cop_mm plus provisional_mm lies within the frame delivered length since doff (R51), which is 0
while the frame is UNCONFIGURED (R48) and never passes its 32 bits. -/
def State.copsCapped (s : State) : Prop :=
  s.dc.delivered ≤ max32
    ∧ (∀ p, (s.spindle p).copMm + (s.spindle p).provisionalMm ≤ s.dc.delivered)
    ∧ (s.dc.state = .unconfigured → s.dc.delivered = 0)

/-- Each side's running spindle-sweeps lie within its evaluable ones, in the current and in the closed record (R147). -/
def State.runningCounted (s : State) : Prop :=
  ∀ sd, (s.shiftSide sd).current.running ≤ (s.shiftSide sd).current.evaluable
    ∧ (s.shiftSide sd).closed.counts.running ≤ (s.shiftSide sd).closed.counts.evaluable

end Sys2Proof.Machine
end

