-- ==== Sys2Proof/WellFormed.lean ====
section
/-! DEFINITION. Well-formed commands: each operand fits the bytes that chapter 11 carries it in. A command out of these
bounds cannot arrive; what is in them but out of a table's range is answered by the command's own checks. -/

namespace Sys2Proof

/-- The operand fits one byte. -/
def fitsByte (n : Nat) : Bool := n < 256
/-- The operand fits two bytes. -/
def fitsWord (n : Nat) : Bool := n < 65536
/-- The operand fits four bytes. -/
def fitsLong (n : Nat) : Bool := n < 4294967296
/-- A station and a tag, one byte each. -/
def fitsHeader (src tag : Nat) : Bool := fitsByte src && fitsByte tag
/-- A first and a last spindle, two bytes each. -/
def fitsRange (first last : Nat) : Bool := fitsWord first && fitsWord last
/-- A carried threshold field is two bytes. -/
def fitsField (f : Option Nat) : Bool := match f with | some n => fitsWord n | none => true
/-- A mill line frame has at most 240 payload bytes and 7 of its own. -/
def fitsFrame (f : List Byte) : Bool := f.length ≤ 247
/-- A service bus answer has at most 20 argument bytes and 8 of its own. -/
def fitsAnswer (f : List Byte) : Bool := f.length ≤ 28
/-- The data of a pass-through fits a message of 20 argument bytes after the register. -/
def fitsData (d : List Byte) : Bool := d.length ≤ 19

def ThresholdFields.fits (w : ThresholdFields) : Bool :=
  [w.sweepMs, w.thrRun, w.thrBreak, w.pMin, w.downConfirm, w.runConfirm, w.verifySweeps, w.mppQ, w.maxWait, w.jobLimit,
    w.attemptsMax, w.downLimit, w.stopLimit, w.doffLimit, w.settleSweeps, w.transportStation, w.transportLimit, w.trimOn,
    w.trimOff, w.blockSweeps].all fitsField

def ArticleFields.fits (w : ArticleFields) : Bool :=
  [w.number, w.texX100, w.tpm, w.draftX100, w.shortCopQ8].all fitsWord &&
    [w.fullCopM, w.bobbinM, w.prewarnM, w.rampM, w.deferM].all fitsLong

def ZoneFields.fits (w : ZoneFields) : Bool :=
  fitsByte w.enabled && fitsByte w.address && fitsByte w.side && fitsRange w.first w.last

def SectionFields.fits (w : SectionFields) : Bool :=
  fitsByte w.enabled && fitsByte w.side && fitsRange w.first w.last && fitsWord w.triggerCount && fitsLong w.reserveM
    && fitsLong w.exhaustM

/-- A command whose operands fit the bytes they are carried in. -/
def Instr.wf : Instr → Bool
  | .powerOn _ => true
  | .warmRestart => true
  | .sweepStart _ => true
  | .sweepClose _ => true
  | .headReplyBlock _ _ => true
  | .encoderPulse => true
  | .pollCycleStart => true
  | .goodAnswer f => fitsAnswer f
  | .missedAnswer => true
  | .missedPollsLimit a => fitsByte a
  | .accept a _ _ => fitsByte a
  | .done a _ _ _ => fitsByte a
  | .position a _ p _ => fitsByte a && fitsWord p
  | .status a _ _ => fitsByte a
  | .ready a _ => fitsByte a
  | .doffDone a _ => fitsByte a
  | .fault a _ => fitsByte a
  | .actual a _ _ _ _ _ => fitsByte a
  | .creelChangerDone a _ p => fitsByte a && fitsWord p
  | .creelChangerFailed a _ p => fitsByte a && fitsWord p
  | .passThroughReply a _ _ d => fitsByte a && fitsData d
  | .offerWithdrawn c => c < 4
  | .passTimeout => true
  | .jobTimerExpiry c => c < 4
  | .cancelTimerExpiry c => c < 4
  | .stopTimerExpiry => true
  | .clearTimerExpiry => true
  | .doffTimerExpiry => true
  | .transportTimerExpiry r => r < 64
  | .backoffTimerExpiry r => r < 64
  | .changeTimerExpiry => true
  | .graceTimerExpiry => true
  | .linkTimeout _ => true
  | .headLost _ h => h < 64
  | .huntLimit _ => true
  | .settleSweepsReached => true
  | .dwellDrop _ => true
  | .rateBlockEnd _ => true
  | .disobeyLimit _ => true
  | .panelStop _ => true
  | .doffCall _ => true
  | .creelDone _ => true
  | .lampTest _ => true
  | .idleFill _ => true
  | .millLineFrame _ f => fitsFrame f
  | .upstreamFrameEnd => true
  | .downstreamFrameEnd => true
  | .transportAck s r => fitsHeader s r
  | .exchStart s r => fitsHeader s r
  | .exchDone s r n => fitsHeader s r && fitsByte n
  | .reject s r n => fitsHeader s r && fitsByte n
  | .unknownTable s t c => fitsHeader s t && fitsByte c
  | .thresholdsWrite s t w => fitsHeader s t && w.fits
  | .unitsWrite s t a r => fitsHeader s t && fitsByte a && fitsByte r
  | .ceilingRowsWrite s t r e l d => fitsHeader s t && fitsByte r && fitsByte e && fitsByte l && fitsWord d
  | .articleActiveWrite s t w => fitsHeader s t && w.fits
  | .articleNextWrite s t w => fitsHeader s t && w.fits
  | .articleNextEmpty s t => fitsHeader s t
  | .alertEnable s t cs => fitsHeader s t && cs.all fun c => fitsHeader c.1 c.2
  | .spindleMapWrite s t sd n r => fitsHeader s t && fitsByte sd && fitsWord n && fitsByte r
  | .zoneTableWrite s t r w => fitsHeader s t && fitsByte r && w.fits
  | .sectionTableWrite s t r w => fitsHeader s t && fitsByte r && w.fits
  | .maskTableWrite s t f l o => fitsHeader s t && fitsRange f l && fitsByte o
  | .readThresholds s t => fitsHeader s t
  | .lengthStatus s t => fitsHeader s t
  | .piecingStatus s t => fitsHeader s t
  | .doffStatus s t => fitsHeader s t
  | .ceilingStatus s t => fitsHeader s t
  | .shiftStatus s t => fitsHeader s t
  | .busStatus s t => fitsHeader s t
  | .railStatus s t sd => fitsHeader s t && fitsByte sd
  | .creelStatus s t f l => fitsHeader s t && fitsRange f l
  | .spindleRecords s t f l => fitsHeader s t && fitsRange f l
  | .lineStatus s t => fitsHeader s t
  | .shiftClose s t => fitsHeader s t
  | .doffNow s t => fitsHeader s t
  | .doffDefer s t => fitsHeader s t
  | .presetBuild s t n => fitsHeader s t && fitsLong n
  | .spindleMask s t f l k => fitsHeader s t && fitsRange f l && fitsByte k
  | .spindleUnmask s t f l => fitsHeader s t && fitsRange f l
  | .clearRed s t f l => fitsHeader s t && fitsRange f l
  | .holdSet s t c => fitsHeader s t && fitsByte c
  | .holdClear s t c => fitsHeader s t && fitsByte c
  | .blockSet s t c => fitsHeader s t && fitsByte c
  | .blockClear s t c => fitsHeader s t && fitsByte c
  | .autoHoldSet s t c => fitsHeader s t && fitsByte c
  | .autoHoldClear s t c => fitsHeader s t && fitsByte c
  | .seqSet s t c _ => fitsHeader s t && fitsByte c
  | .ceilingOverride s t m => fitsHeader s t && (match m with | some n => fitsByte n | none => true)
  | .releaseCeilingRow s t r => fitsHeader s t && fitsByte r
  | .releaseDoff s t => fitsHeader s t
  | .releaseSection s t r => fitsHeader s t && fitsByte r
  | .passRead s t u r n => fitsHeader s t && fitsByte u && fitsByte r && fitsByte n
  | .passWrite s t u r d => fitsHeader s t && fitsByte u && fitsByte r && d.length ≤ 238
  | .alertAck s t cs => fitsHeader s t && cs.all fitsByte
  | .sideReset s t sd => fitsHeader s t && fitsByte sd
  | .restart s t => fitsHeader s t

end Sys2Proof
end

