-- ==== Sys2Proof/Certificates/Slice0/Obligations.lean ====
section
/-! DEFINITION. The statements about the part, for the provers. Each formalises rules of spec/, which its docstring
names. A frame is given with `State.changesOnly`: every piece of the state that the list does not name stays as it
was. -/

open Sys2Proof Sys2Proof.Machine

/-! ### The queue and the time base -/

/-- A step takes the command at the front of the queue and executes it with the rest of the queue. -/
def Obligations.StepRunsFrontCommand : Prop :=
  ∀ (s : State) (i : Instr) (rest : List Instr), s.pending = i :: rest → step s = exec i { s with pending := rest }

/-- The model's choice (log entry 4): with no command waiting, a step takes the first event of the part's own time base
that is due, and where none is due 10 ms pass. Then every running timer loses 10 ms and each panel line is sampled: five
samples in a row of a level other than the debounced one bring the line's row (R144, log entry 40). A timer's command is due
when the timer stands at 0 in a state in which it runs. -/
def Obligations.EmptyQueueTicksTimeBase : Prop :=
  ∀ s : State, s.pending = [] →
    (∀ i rest, s.due = i :: rest → step s = exec i s) ∧
    (s.due = [] → ∃ t, step s = .next t ∧
      s.changesOnly [.rail .a, .rail .b, .channels, .doff, .creel, .drive, .panel, .cycle, .line] t ∧
      let runs (x : Timer) : Timer := x.map (· - 10)
      (∀ sd, t.railOf sd = { s.railOf sd with
        windowTimer := runs (s.railOf sd).windowTimer, sweepTimer := runs (s.railOf sd).sweepTimer }) ∧
      t.pd = { s.pd with channels := t.pd.channels } ∧
      (∀ c, t.channel c = { s.channel c with
        jobTimer := runs (s.channel c).jobTimer, cancelTimer := runs (s.channel c).cancelTimer }) ∧
      t.dc = { s.dc with
        stopTimer := runs s.dc.stopTimer, clearTimer := runs s.dc.clearTimer, doffTimer := runs s.dc.doffTimer } ∧
      t.cc = { s.cc with sections := t.cc.sections, changeTimer := runs s.cc.changeTimer } ∧
      (∀ r, t.creelSection r = { s.creelSection r with
        transportTimer := runs (s.creelSection r).transportTimer
        backoffTimer := runs (s.creelSection r).backoffTimer }) ∧
      t.dcu = { s.dcu with graceTimer := runs s.dcu.graceTimer, inputs := t.dcu.inputs } ∧
      (∀ x, t.dcu.inputs.get x = { s.dcu.inputs.get x with
        samples := if (s.dcu.inputs.get x).raw = s.dcu.lines.level x then 0
          else min 5 ((s.dcu.inputs.get x).samples + 1) }) ∧
      t.sbm = { s.sbm with cycleTimer := s.sbm.cycleTimer - 10 } ∧
      t.mli = { s.mli with upstream := t.mli.upstream, downstream := t.mli.downstream } ∧
      ∀ p, t.mli.port p = { s.mli.port p with silence := runs (s.mli.port p).silence }) ∧
    (let is (i : Instr) (p : Prop) : Prop := i ∈ s.due ↔ p
    (∀ sd, is (.sweepClose sd)
        ((s.railOf sd).installed ≠ 0 ∧ (s.railOf sd).windowOpen = true ∧ (s.railOf sd).windowTimer = some 0) ∧
      is (.sweepStart sd)
        ((s.railOf sd).installed ≠ 0 ∧ (s.railOf sd).windowOpen = false ∧ (s.railOf sd).sweepTimer = some 0)) ∧
    is .pollCycleStart (s.sbm.cycleTimer = 0) ∧
    (∀ c, is (.jobTimerExpiry c) (c < 4 ∧ (s.channel c).state = .busy ∧ (s.channel c).jobTimer = some 0) ∧
      is (.cancelTimerExpiry c) (c < 4 ∧ (s.channel c).state = .cancelling ∧ (s.channel c).cancelTimer = some 0)) ∧
    is .stopTimerExpiry (s.dc.state = .full ∧ s.dc.stopTimer = some 0) ∧
    is .clearTimerExpiry (s.dc.state = .full ∧ s.dc.clearTimer = some 0) ∧
    is .doffTimerExpiry (s.dc.state = .doffing ∧ s.dc.doffTimer = some 0) ∧
    (∀ r, is (.transportTimerExpiry r) (r < 64 ∧ ((s.creelSection r).state = .requested ∨
        (s.creelSection r).state = .exchanging) ∧ (s.creelSection r).transportTimer = some 0) ∧
      is (.backoffTimerExpiry r) (r < 64 ∧ (s.creelSection r).backoffTimer = some 0)) ∧
    is .changeTimerExpiry (s.cc.inFlight.isSome = true ∧ s.cc.changeTimer = some 0) ∧
    is .graceTimerExpiry (s.dcu.graceTimer = some 0) ∧
    (∀ p, is (.linkTimeout p) ((s.mli.port p).up = true ∧ (s.mli.port p).silence = some 0)) ∧
    ∀ v, is (.panelStop v) ((s.dcu.inputs.get .panelStop).raw = v ∧ s.dcu.lines.panelStop ≠ v ∧
        5 ≤ (s.dcu.inputs.get .panelStop).samples) ∧
      is (.doffCall v) ((s.dcu.inputs.get .doffCall).raw = v ∧ s.dcu.lines.doffCall ≠ v ∧
        5 ≤ (s.dcu.inputs.get .doffCall).samples) ∧
      is (.creelDone v) ((s.dcu.inputs.get .creelDone).raw = v ∧ s.dcu.lines.creelDone ≠ v ∧
        5 ≤ (s.dcu.inputs.get .creelDone).samples) ∧
      is (.lampTest v) ((s.dcu.inputs.get .lampTest).raw = v ∧ s.dcu.lines.lampTest ≠ v ∧
        5 ≤ (s.dcu.inputs.get .lampTest).samples))

/-- Power-on gives every block its power-on values (R17, R20, R43, R61, R88, R110, R130, R146, R158, R170, R182) and
samples the straps (R172). The whole state is the reset state with the straps, the panel lines' raw levels, which are the
outside's and stay, and the queue of waiting commands, which is the model's own and stays (log entry 7). The reset state
meets every invariant of the part. -/
def Obligations.PowerOnGivesPowerOnValues : Prop :=
  (∀ (straps : BitVec 6) (s : State), ∃ t, exec (.powerOn straps) s = .next t ∧
    t = { State.reset with
      mli := { State.reset.mli with station := straps }
      dcu := { State.reset.dcu with
        inputs := ⟨⟨s.dcu.inputs.panelStop.raw, 0⟩, ⟨s.dcu.inputs.doffCall.raw, 0⟩, ⟨s.dcu.inputs.creelDone.raw, 0⟩,
          ⟨s.dcu.inputs.lampTest.raw, 0⟩⟩ }
      pending := s.pending } ∧
    t.thresholds.sweepMs = 1000 ∧ t.thresholds.thrRun = 230 ∧ t.thresholds.thrBreak = 64 ∧ t.thresholds.pMin = 8 ∧
    t.thresholds.mppQ = 1024 ∧ t.thresholds.maxWait = 600 ∧ t.thresholds.transportStation = 0 ∧
    (∀ sd, (t.railOf sd).installed = 0 ∧ (t.railOf sd).state = .idle ∧ (t.railOf sd).sweepIndex = 0 ∧
      (t.railOf sd).counters = ⟨0, 0, 0, 0, 0⟩ ∧ (t.railOf sd).windowOpen = false) ∧
    (∀ p, (t.spindle p).state = .unknown ∧ (t.spindle p).mask = .none ∧ (t.spindle p).override = .none ∧
      (t.spindle p).copMm = 0 ∧ (t.spindle p).downSince = none ∧ (t.bobbin p).state = .none) ∧
    t.lu.pulses = 0 ∧ (∀ sd, (t.lengthSide sd).lastSample = none ∧ (t.lengthSide sd).carry = 0) ∧
    (∀ c, (t.channel c).state = .offline ∧ (t.channel c).offlineCause = some .unit ∧ t.breakQueue c = [] ∧
      (t.zone c).enabled = false) ∧
    t.dc.state = .unconfigured ∧ t.dc.delivered = 0 ∧ t.dc.active = none ∧ t.dc.next = none ∧ t.dc.doffNumber = 0 ∧
    (∀ r, (t.creelSection r).state = .supplied ∧ (t.creelSection r).config.enabled = false) ∧ t.cc.queue = [] ∧
    t.cc.loads = 0 ∧ (∀ n, (t.ceilingRow n).active = false ∧ (t.ceilingRow n).cause = false) ∧
    (t.ceilingRow .overrideRow).enable = false ∧ (t.ceilingRow .doffFault).lock = true ∧ t.dcu.ceiling = .full ∧
    t.dcu.confirmed = false ∧ t.dcu.lines.runPermit = false ∧ t.sau.shiftNumber = 0 ∧
    (∀ sd, (t.shiftSide sd).current = {} ∧ (t.shiftSide sd).pending = false) ∧
    (∀ a, (t.unit a).role = .none ∧ (t.unit a).state = .absent) ∧ t.sbm.pass = none ∧ t.mli.station = straps ∧
    t.mli.reports = [] ∧ t.mli.replies = [] ∧ t.mli.deferred = [] ∧ t.mli.upstream.up = false ∧
    t.mli.downstream.up = false ∧ ∀ c, (t.alert c).pending = false ∧ (t.alert c).enabled = false) ∧
  State.reset.linesAgree ∧ State.reset.ceilingAgrees ∧ State.reset.offersMade ∧ State.reset.listsBounded ∧
    State.reset.copsCapped ∧ State.reset.runningCounted

/-! ### Invariants that every step keeps -/

/-- RUN_PERMIT and the three lamps always stand as their facts drive them (R128, R142, R143): the permit while the
ceiling is not HALT, the drive confirmed and the grace not expired; each lamp under LAMP_TEST or with its fact, which is
for END_LAMP a RED spindle, or a DOWN one in no enabled zone, in either side's latest count (R67), for ROVING_LAMP an enabled
section that is not SUPPLIED or an installed spindle in ROVING_OUT, for FAULT_LAMP a pending cause of class FAULT. -/
def Obligations.OutputLinesFollowFacts : Prop :=
  (∀ s t : State, s.linesAgree → step s = .next t → t.linesAgree) ∧
  ∀ s : State,
    let l := s.dcu.lines
    (s.linesAgree ↔ s.cc.rovingLamp = s.rovingLampFact ∧ l.runPermit = s.runPermitFact ∧
      l.endLamp = (l.lampTest || s.endLampFact) ∧ l.rovingLamp = (l.lampTest || s.cc.rovingLamp) ∧
      l.faultLamp = (l.lampTest || s.faultLampFact)) ∧
    (s.runPermitFact = true ↔ s.dcu.ceiling ≠ .halt ∧ s.dcu.confirmed = true ∧ s.dcu.graceExpired = false) ∧
    (s.endLampFact = true ↔
      ∃ sd, (s.pd.downLoad.get sd).reds ≠ [] ∨ (s.pd.downLoad.get sd).outsideZones ≠ []) ∧
    (s.rovingLampFact = true ↔
      (∃ r, r < 64 ∧ (s.creelSection r).config.enabled = true ∧ (s.creelSection r).state ≠ .supplied) ∨
        ∃ sd, ∃ p ∈ s.positions sd, (s.spindle p).state = .rovingOut) ∧
    (s.faultLampFact = true ↔
      ∃ c ∈ [AlertCause.railFault, .dofferFault, .driveOffline, .driveDisobey, .carriageOffline, .sectionStalled],
        (s.alert c).pending = true)

/-- The sent ceiling is always the effective ceiling, with its positioning flag (R134). That is the lowest mode, from
HALT up to FULL, that an active row asks for, and FULL where none asks for one; the flag is set when the DOFF row asks for
that STOP with positioning and no other row asks for STOP or HALT. -/
def Obligations.SentCeilingIsEffectiveCeiling : Prop :=
  (∀ s t : State, s.ceilingAgrees → step s = .next t → t.ceilingAgrees) ∧
  [CeilingMode.halt, .stop, .crawl, .trim, .full].map modeRank = [0, 1, 2, 3, 4] ∧
  ∀ s : State,
    let asks (n : RowName) (m : CeilingMode) : Prop := (s.ceilingRow n).active = true ∧ (s.ceilingRow n).mode = some m
    (∀ n m, asks n m → modeRank s.effectiveCeiling ≤ modeRank m) ∧
    ((∃ n m, asks n m) → ∃ n, asks n s.effectiveCeiling) ∧
    ((∀ n m, ¬ asks n m) → s.effectiveCeiling = .full) ∧
    (s.effectivePositioning = true ↔ s.effectiveCeiling = .stop ∧ asks .doff .stop ∧
      (s.ceilingRow .doff).positioning = true ∧ ∀ n, n ≠ .doff → ¬ asks n .stop ∧ ¬ asks n .halt)

/-- No event leaves a channel in the condition of R70: the offer is made at the event (R70, R71). -/
def Obligations.EveryPossibleOfferIsMade : Prop :=
  ∀ s t : State, s.offersMade → step s = .next t → t.offersMade

/-- The report queue, the reply and transport lists, the forward buffers, the request queue, the break queues, the
single-change list with its entry in flight, and the transport request queue never hold more than the spec gives them, and
a section stands in the transport request queue once (R64, R119, R126, R172, R173, R174, R178). -/
def Obligations.QueuesStayWithinBounds : Prop :=
  ∀ s t : State, s.listsBounded → step s = .next t → t.listsBounded

/-- No spindle's cop_mm plus provisional_mm ever exceeds the frame delivered length since doff (R51), as long as the
command at the front fits the bytes it is carried in. -/
def Obligations.CopCapIsKept : Prop :=
  ∀ s t : State, s.copsCapped → (∀ i rest, s.pending = i :: rest → i.wf = true) → step s = .next t → t.copsCapped

/-- A shift record never counts more running than evaluable spindle-sweeps (R147). -/
def Obligations.RunningSweepsAreEvaluable : Prop :=
  ∀ s t : State, s.runningCounted → step s = .next t → t.runningCounted

/-- The pulse counter advances by 1, modulo 2^32, at every encoder pulse in every state; power-on sets it to 0, and
nothing else changes it (R44). -/
def Obligations.PulseCounterCountsEveryPulse : Prop :=
  (∀ s : State, ∃ t, exec .encoderPulse s = .next t ∧ t.lu.pulses = s.lu.pulses + 1 ∧ s.changesOnly [.pulses] t) ∧
  (∀ (straps : BitVec 6) (s : State), ∃ t, exec (.powerOn straps) s = .next t ∧ t.lu.pulses = 0) ∧
  ∀ (i : Instr) (s t : State), exec i s = .next t → i ≠ .encoderPulse → (∀ b, i ≠ .powerOn b) →
    t.lu.pulses = s.lu.pulses

/-! ### Rail Controller -/

/-- SWEEP_START on a configured side advances the sweep number, keeps the current map as the prior one, composes and
sends a new one with the rail fault indication, loads both timers, opens the window with every head unanswered and
takes the pulse sample; on an IDLE side, and where a side reset has opened a window before the expiry is taken, nothing
happens (R3, R4, R18, R45). The roving-stop map composed at a sweep start:
a spindle's flag is set on a fitted side when its state is DOWN, RED, ROVING_OUT or MASKED, or PIECING with an OFFERED
channel (R5). No spindle is the job of two channels. -/
def Obligations.SweepStartOpensWindowWithItsMap : Prop :=
  (∀ (sd : Side) (s : State), ∃ t, exec (.sweepStart sd) s = .next t ∧ s.changesOnly [.rail sd, .length sd] t ∧
     ((s.railOf sd).installed = 0 ∨ (s.railOf sd).windowOpen = true → s.changesOnly [] t) ∧
     ((s.railOf sd).installed ≠ 0 → (s.railOf sd).windowOpen = false →
       t.railOf sd = { s.railOf sd with
         sweepNumber := (s.railOf sd).sweepNumber + 1
         priorMap := (s.railOf sd).currentMap
         currentMap := (s.positions sd).map s.rovingStopFlag
         lastFrame := some ⟨sd, (s.railOf sd).sweepNumber + 1,
           (s.railOf sd).state == .degraded || (s.railOf sd).state == .fault,
           (s.positions sd).map s.rovingStopFlag⟩
         sweepTimer := some s.thresholds.sweepMs
         windowTimer := some (s.thresholds.sweepMs - 100)
         windowOpen := true
         window := List.replicate (s.railOf sd).heads.length .unanswered } ∧
       t.lengthSide sd = { s.lengthSide sd with
         lastSample := some s.lu.pulses
         held := match (s.lengthSide sd).lastSample with
           | some l => min 65535 ((s.lengthSide sd).held + (s.lu.pulses - l).toNat)
           | none => (s.lengthSide sd).held })) ∧
  (∀ (s : State) (sd : Side) (k : Nat), k < (s.railOf sd).installed → (s.railOf sd).installed ≤ 1024 →
     (∀ c ∈ channelNumbers, ∀ d ∈ channelNumbers, (s.channel c).inJob = true → (s.channel d).inJob = true →
       (s.channel c).job = some (sd.base + k) → (s.channel d).job = some (sd.base + k) → c = d) →
     ∃ b, (s.composeMap sd)[k]? = some b ∧
       (b = true ↔ (s.railOf sd).rovingStop = true ∧
         ((s.spindle (sd.base + k)).state = .down ∨ (s.spindle (sd.base + k)).state = .red ∨
           (s.spindle (sd.base + k)).state = .rovingOut ∨ (s.spindle (sd.base + k)).state = .masked ∨
           ((s.spindle (sd.base + k)).state = .piecing ∧ ∃ c ∈ channelNumbers,
             (s.channel c).state = .offered ∧ (s.channel c).job = some (sd.base + k)))))

/-- HEAD_REPLY_BLOCK: late in the rail gap; in the open window the first of the checks that applies decides: bad
check, stray, late echo, wrong echo, duplicate, or taken with its sixteen spindle fields (R6, R7, R184). A side
without heads ignores it. -/
def Obligations.HeadReplyBlockIsSorted : Prop :=
  ∀ (sd : Side) (block : List Byte) (s : State), ∃ t, exec (.headReplyBlock sd block) s = .next t ∧
    s.changesOnly [.rail sd] t ∧
    let r := s.railOf sd
    let byte (i : Nat) : Nat := (block.getD i 0#8).toNat
    let k := r.counters
    t.railOf sd =
      if r.installed = 0 then r
      else if r.windowOpen = false then { r with counters := { k with late := min 65535 (k.late + 1) } }
      else if block.length ≠ 35 ∨ ((List.range 34).map byte).sum % 256 ≠ byte 34 then
        { r with counters := { k with badCheck := min 65535 (k.badCheck + 1) } }
      else if r.installed / 16 ≤ byte 0 then { r with counters := { k with stray := min 65535 (k.stray + 1) } }
      else if byte 1 = (r.sweepNumber.toNat + 15) % 16 then
        { r with counters := { k with late := min 65535 (k.late + 1) } }
      else if byte 1 ≠ r.sweepNumber.toNat then
        { r with counters := { k with wrongEcho := min 65535 (k.wrongEcho + 1) } }
      else if r.window.getD (byte 0) .unanswered ≠ .unanswered then
        { r with window := r.window.set (byte 0) .errored,
                 counters := { k with duplicate := min 65535 (k.duplicate + 1) } }
      else
        { r with window := r.window.set (byte 0) (.answered ((List.range 16).map fun i =>
            ⟨byte (2 + 2 * i) % 16 * 256 + byte (3 + 2 * i), decide (128 ≤ byte (2 + 2 * i))⟩)) }

/-- HEAD_LOST: an ERRORED head's fourth errored sweep in a row takes it to LOST, with a HEAD_STATE report (R10).
HUNT_LIMIT: the eighth close in HUNT takes the side to FAULT, DEGRADED or SYNC by its lost count against N/64, with a
RAIL_STATE report, and in FAULT the alert and the row's cause (R11, R13). -/
def Obligations.HeadAndHuntLimitsAct : Prop :=
  (∀ (sd : Side) (h : Nat) (s : State), h < (s.railOf sd).heads.length →
    ((s.railOf sd).heads.getD h {}).state = .errored → ((s.railOf sd).heads.getD h {}).erroredRun = 3 →
    s.mli.reports.length < 96 →
    ∃ t, exec (.headLost sd h) s = .next t ∧ s.changesOnly [.rail sd, .reports] t ∧
      t.railOf sd = { s.railOf sd with heads := (s.railOf sd).heads.set h ⟨.lost, 4, 0⟩ } ∧
      s.posts t [.headState sd h .lost (s.railOf sd).sweepIndex]) ∧
  (∀ (sd : Side) (s : State), (s.railOf sd).state = .hunt → (s.railOf sd).huntCount = 7 →
    (s.railOf sd).noGoodRun < 3 → s.mli.reports.length < 96 →
    ∃ t, exec (.huntLimit sd) s = .next t ∧ s.changesOnly [.rail sd, .reports, .alerts, .rows] t ∧
      t.railOf sd = { s.railOf sd with
        huntCount := 8
        state := if (s.railOf sd).installed / 64 < (s.railOf sd).lostCount then .fault
          else if 0 < (s.railOf sd).lostCount then .degraded else .sync } ∧
      (∃ rest, t.mli.reports = s.mli.reports ++ ⟨false, s.mli.eventGap, .railState sd .hunt (t.railOf sd).state
        (s.railOf sd).lostCount (s.railOf sd).sweepIndex⟩ :: rest) ∧
      ((t.railOf sd).state = .fault → (t.alert .railFault).pending = true) ∧
      ((t.ceilingRow (match sd with | .a => .railA | .b => .railB)).cause = true ↔ (t.railOf sd).state = .fault))

/-! ### The sweep close -/

/-- SWEEP_CLOSE, the Rail Controller's part: on a side whose window is open the sweep index advances, every head
record follows the table of R10, the no-good run and, in HUNT, the hunt count advance (1.7; that the hunt count stands still
outside HUNT is the model's choice, log entry 63), the rail state follows R11 and R12, and the window is closed (R9).
On a side without an open window nothing happens: no close is under way there (the model's choice, log entry 3). No
write waits. -/
def Obligations.SweepCloseUpdatesRail : Prop :=
  ∀ (sd : Side) (s : State),
    ((s.railOf sd).installed = 0 ∨ (s.railOf sd).windowOpen = false →
      ∃ t, exec (.sweepClose sd) s = .next t ∧ s.changesOnly [] t) ∧
    ((s.railOf sd).installed ≠ 0 → (s.railOf sd).windowOpen = true → s.mli.deferred = [] →
      (s.railOf sd).window.length = (s.railOf sd).heads.length →
      ∃ t, exec (.sweepClose sd) s = .next t ∧
        s.changesOnly [.alerts, .bobbins, .channels, .creel, .doff, .downLoad, .drive, .length sd, .queues, .rail sd,
          .rates, .reports, .rows, .shift, .spindles, .transport, .units] t ∧
        let r := s.railOf sd
        let u := t.railOf sd
        let good := r.goodHead
        let lost := (u.heads.filter fun h => h.state == .lost).length
        let left : RailState := if r.installed / 64 < lost then .fault else if 0 < lost then .degraded else .sync
        u = { r with
          sweepIndex := min 4294967295 (r.sweepIndex + 1)
          windowOpen := false
          windowTimer := none
          window := []
          heads := u.heads
          noGoodRun := if ∃ h < r.heads.length, good h = true then 0 else min 3 (r.noGoodRun + 1)
          huntCount := if r.state = .hunt then min 8 (r.huntCount + 1) else r.huntCount
          state := match r.state with
            | .idle => .idle
            | .hunt =>
              if ∀ h < r.heads.length, good h = true then .sync
              else if 3 ≤ u.noGoodRun then .fault
              else if 8 ≤ u.huntCount then left
              else .hunt
            | .sync | .degraded =>
              if r.installed / 64 < lost ∨ 3 ≤ u.noGoodRun then .fault else if 0 < lost then .degraded else .sync
            | .fault => if lost ≤ r.installed / 64 ∧ ∃ h < r.heads.length, good h = true then left else .fault } ∧
        u.heads.length = r.heads.length ∧
        ∀ h < r.heads.length, u.heads.getD h {} =
          let x := r.heads.getD h {}
          match x.state, good h with
          | .ok, true => { x with erroredRun := 0 }
          | .ok, false => { x with state := .errored, erroredRun := 1 }
          | .errored, true => { x with state := .ok, erroredRun := 0 }
          | .errored, false =>
            if 4 ≤ x.erroredRun + 1 then ⟨.lost, 4, 0⟩ else { x with erroredRun := x.erroredRun + 1 }
          | .lost, true =>
            if 2 ≤ x.goodRun + 1 then ⟨.ok, 0, 0⟩ else { x with erroredRun := 0, goodRun := x.goodRun + 1 }
          | .lost, false => { x with erroredRun := min 4 (x.erroredRun + 1), goodRun := 0 })

/-- SWEEP_CLOSE is its steps in the order of R24, all under the index of this close (R9; that of step 1 too: log entry
74): the writes due at the close, the Rail Controller's part with one observation for each installed spindle,
classification, length and roving, shift counting, the blocks, and the map write of step 8; then the offers and the
facts told to the Doff Controller (log entry 35), and the lines. The order of the blocks at step 7 is the model's (log
entry 10). The delivered length: q is the side's carry plus P × mpp_q, the close delivers q / 1024 millimetres and
keeps the remainder as its carry (R47); the frame delivered length since doff advances by it at a close of the
counting side, except in UNCONFIGURED, which the close leaves with 0 where an article is active (R48, R93), and the
side's current shift record takes it where no shift close is pending (R147). The doffer is not ready, so that the
close begins no doff. -/
def Obligations.SweepCloseDeliversLength : Prop :=
  (∀ (sd : Side) (s : State), (s.railOf sd).installed ≠ 0 → (s.railOf sd).windowOpen = true →
    let index := min 4294967295 ((s.railOf sd).sweepIndex + 1)
    let s1 := completeDue sd index (TableWrite.dueAt sd) (s.modRail sd fun r => { r with sweepIndex := index })
    let heads := updateHeads sd s1
    let s2 := (railAtClose sd s1).1
    let obs := (railAtClose sd s1).2
    let observed (p : Nat) : Observation := tget .noData obs p
    let s3 := (classifySide sd obs s2).1
    let notices := (classifySide sd obs s2).2
    let s5 := lengthAtClose sd notices.moved s3
    let s6 := shiftAtClose sd s5.2
      (fun p => (evaluate s2.thresholds (s2.lengthSide sd).held s2.dc.active (observed p)).isSome) notices.confirmed s5.1
    let ceiling := ceilingAtClose sd (notices.reds.foldl
      (fun x p => postEvent (.spindleRed sd p (x.spindle p).attempts (x.railOf sd).sweepIndex) x) s6.1)
    let piecing := piecingAtClose sd notices.handPieced notices.falsePieces notices.confirmedDown ceiling
    let doff := doffAtClose sd (creelAtClose sd notices.rovingOut notices.handCreeled piecing)
    let s7 := match s6.2 with | some r => takeRate sd r doff | none => doff
    exec (.sweepClose sd) s = .next (finish (conclude (completeDue sd index (TableWrite.mapDueAt sd) s7))) ∧
    ∀ p, p < 2048 → observed p =
      if sideOf p = sd ∧ p < sd.base + (s1.railOf sd).installed then heads.observation sd (s1.railOf sd).state p
      else .noData) ∧
  ∀ (sd : Side) (s : State), (s.railOf sd).installed ≠ 0 → (s.railOf sd).windowOpen = true → s.mli.deferred = [] →
    s.dc.dofferReady = false →
    ∃ t, exec (.sweepClose sd) s = .next t ∧
      let x := s.lengthSide sd
      let q := x.carry + x.held * s.thresholds.mppQ
      t.lengthSide sd = { x with held := 0, carry := q % 1024, lastP := x.held, lastD := q / 1024 } ∧
      t.lengthSide sd.other = s.lengthSide sd.other ∧
      (t.dc.delivered =
        if s.dc.state = .unconfigured then (if s.dc.active.isSome then 0 else s.dc.delivered)
        else if sd = .a ∨ (s.railOf .a).installed = 0 then min 4294967295 (s.dc.delivered + q / 1024)
        else s.dc.delivered) ∧
      ((s.shiftSide sd).pending = false → (t.shiftSide sd).current.deliveredMm =
        min 281474976710655 ((s.shiftSide sd).current.deliveredMm + q / 1024))

/-! ### Spindle Table -/

/-- The verdict of a count by the two cross-multiplied tests, formed in full (R22). -/
def Obligations.VerdictByCrossMultiplication : Prop :=
  ∀ (h : Thresholds) (p tpm c : Nat),
    (countVerdict h p tpm c = .run ↔ c = 4095 ∨ p * h.mppQ * tpm * h.thrRun ≤ c * 262144000) ∧
    (countVerdict h p tpm c = .below ↔ c ≠ 4095 ∧ ¬ p * h.mppQ * tpm * h.thrRun ≤ c * 262144000 ∧
      c * 262144000 < p * h.mppQ * tpm * h.thrBreak) ∧
    (countVerdict h p tpm c = .slip ↔ c ≠ 4095 ∧ ¬ p * h.mppQ * tpm * h.thrRun ≤ c * 262144000 ∧
      ¬ c * 262144000 < p * h.mppQ * tpm * h.thrBreak) ∧
    (h.thrBreak = 0 → countVerdict h p tpm c ≠ .below) ∧
    (h.thrBreak < h.thrRun → ¬ (p * h.mppQ * tpm * h.thrRun ≤ c * 262144000 ∧
      c * 262144000 < p * h.mppQ * tpm * h.thrBreak)) ∧
    (p ≤ 65535 → h.mppQ ≤ 65535 → tpm ≤ 4000 → h.thrRun ≤ 255 → p * h.mppQ * tpm * h.thrRun < 2 ^ 64)

/-- The observation of a spindle at a close is the first of the seven substitution steps that applies, a SENSOR_FAULT
advances the spindle's counter and the shift record's (R14), and an observation is evaluable only as a forced verdict or as
a COUNT at p_min or more pulses with an active article (R21, R23). What an evaluable verdict makes of a spindle, state by
state (R19, R25 to R31): its new record, and, in every state, whether an end-down is confirmed and is a doff-start one (R28),
whether the spindle is hand pieced, hand creeled (R29) or a false piece (R31), and the millimetres that pass from
provisional_mm to cop_mm (R27, R57); another observation leaves it. At step 3 of a close every spindle of the side becomes
what its observation makes of it, the shift record counts them, and the notices name them in ascending order (R24, R28, R29,
R31). -/
def Obligations.ClassificationFollowsStateTable : Prop :=
  (∀ (s : State) (sd : Side) (before : RailState) (p : Nat),
    let i := p - sd.base
    let field : SpindleField :=
      match (s.railOf sd).window.getD (i / 16) .unanswered with
      | .answered fs => fs.getD (i % 16) ⟨0, false⟩
      | _ => ⟨0, false⟩
    s.observation sd before p =
      if before ≠ .sync ∧ before ≠ .degraded ∨ ((s.railOf sd).heads.getD (i / 16) {}).state ≠ .ok then .noData
      else if (s.spindle p).mask ≠ .none then .masked
      else if s.dc.state = .doffing ∨ (s.dc.state = .settle ∧ s.dc.settlePaused = some true) then .paused
      else if (s.spindle p).override = .forceRun then .forcedRun
      else if (s.spindle p).override = .forceDown then .forcedDown
      else if field.sensorFault = true then .sensorFault
      else .count field.count) ∧
  (∀ (sd : Side) (obs : Vector Observation 2048) (s : State),
    let t := countSensorFaults sd obs s
    let faults := (s.positions sd).filter fun p => tget .noData obs p == .sensorFault
    s.changesOnly [.shift, .spindles] t ∧ t.shiftSide sd.other = s.shiftSide sd.other ∧
    t.shiftSide sd = { s.shiftSide sd with current := { (s.shiftSide sd).current with
      sensorFaults := min 4294967295 ((s.shiftSide sd).current.sensorFaults + faults.length) } } ∧
    ∀ p, p < 2048 → t.spindle p =
      if tget .noData obs p = .sensorFault then
        { s.spindle p with sensorFaults := min 255 ((s.spindle p).sensorFaults + 1) }
      else s.spindle p) ∧
  (∀ (sd : Side) (obs : Vector Observation 2048) (s : State), (s.railOf sd).installed ≤ 1024 →
    let out (p : Nat) : ClassOut :=
      classifyObserved s.thresholds (s.lengthSide sd).held s.dc.active (s.railOf sd).sweepIndex (s.exhausted p)
        (tget .noData obs p) (s.spindle p)
    let pick (f : ClassOut → Bool) : List Nat := (s.positions sd).filter fun p => f (out p)
    let t := (classifySide sd obs s).1
    let n := (classifySide sd obs s).2
    s.changesOnly [.shift, .spindles] t ∧ t.shiftSide sd.other = s.shiftSide sd.other ∧
    (∀ p, p < 2048 → t.spindle p = if p ∈ s.positions sd then (out p).spindle else s.spindle p) ∧
    n.confirmedDown = pick (fun o => o.confirmed && o.spindle.state == .down) ∧
    n.rovingOut = pick (fun o => o.confirmed && o.spindle.state == .rovingOut) ∧
    n.handPieced = pick (·.handPieced) ∧ n.handCreeled = pick (·.handCreeled) ∧ n.falsePieces = pick (·.falsePiece) ∧
    n.reds = pick (fun o => o.falsePiece && o.spindle.state == .red) ∧ n.confirmed = (pick (·.confirmed)).length ∧
    n.moved = ((s.positions sd).map fun p => (out p).moved).sum ∧
    t.shiftSide sd = { s.shiftSide sd with current := { (s.shiftSide sd).current with
      endsDown := min 4294967295 ((s.shiftSide sd).current.endsDown + (pick (·.confirmed)).length)
      doffStartDowns := min 4294967295 ((s.shiftSide sd).current.doffStartDowns + (pick (·.doffStart)).length)
      rovingOutEvents := min 4294967295 ((s.shiftSide sd).current.rovingOutEvents + n.rovingOut.length)
      piecedOther := min 4294967295
        ((s.shiftSide sd).current.piecedOther + (pick fun o => o.handPieced || o.handCreeled).length)
      falsePieces := min 4294967295 ((s.shiftSide sd).current.falsePieces + n.falsePieces.length)
      redEvents := min 4294967295 ((s.shiftSide sd).current.redEvents + n.reds.length) } }) ∧
  (∀ (h : Thresholds) (n idx : Nat) (a : Option Article) (exhausted : Bool) (r : Spindle) (o : Observation),
    (evaluate h n a .forcedRun = some .run ∧ evaluate h n a .forcedDown = some .below ∧
      (∀ c x, a = some x → h.pMin ≤ n → evaluate h n a (.count c) = some (countVerdict h n x.tpm c)) ∧
      (∀ c, a = none ∨ n < h.pMin → evaluate h n a (.count c) = none) ∧
      (o = .noData ∨ o = .masked ∨ o = .paused ∨ o = .sensorFault → evaluate h n a o = none)) ∧
    (evaluate h n a o = none →
      classifyObserved h n a idx exhausted o r =
        { spindle := r, confirmed := false, doffStart := false, handPieced := false, handCreeled := false
          falsePiece := false, moved := 0 }) ∧
    ∀ v, evaluate h n a o = some v → classifyObserved h n a idx exhausted o r = classify h idx exhausted v r) ∧
  ∀ (h : Thresholds) (idx : Nat) (exhausted : Bool) (v : Verdict) (r : Spindle),
    let o := classify h idx exhausted v r
    let plain (st : SpindleState) : Spindle :=
      { r with state := st, belowRun := 0, aboveRun := 0, downSince := none, observedRun := none, verifyCount := none,
               queued := r.queued && r.state != .down }
    let spin : SpindleState := if v = .run then .running else .slipping
    let confirmed : Spindle :=
      { plain (if exhausted then .rovingOut else .down) with
        provisionalMm := 0, downSince := some idx, attempts := 0, endsDown := min 255 (r.endsDown + 1), afterDoff := false }
    (r.state = .unknown →
      o.spindle =
        if v = .below then
          if h.downConfirm ≤ min 15 (r.belowRun + 1) then confirmed
          else { r with belowRun := min 15 (r.belowRun + 1), aboveRun := 0 }
        else if h.runConfirm ≤ min 15 (r.aboveRun + 1) then { plain spin with afterDoff := false }
        else { r with aboveRun := min 15 (r.aboveRun + 1), belowRun := 0 }) ∧
    (r.state = .running ∨ r.state = .slipping →
      o.spindle =
        if v = .below then
          if h.downConfirm = 1 then confirmed else { plain .suspect with belowRun := 1, provisionalMm := 0 }
        else if r.state = spin then r else plain spin) ∧
    (r.state = .suspect →
      o.spindle =
        if v = .below then
          if h.downConfirm ≤ min 15 (r.belowRun + 1) then confirmed
          else { r with belowRun := min 15 (r.belowRun + 1) }
        else { plain spin with copMm := min 4294967295 (r.copMm + r.provisionalMm), provisionalMm := 0 }) ∧
    (r.state = .down ∨ r.state = .red ∨ r.state = .rovingOut →
      o.spindle =
        (if v = .below then { r with aboveRun := 0 }
        else if h.runConfirm ≤ min 15 (r.aboveRun + 1) then { plain .running with attempts := 0 }
        else { r with aboveRun := min 15 (r.aboveRun + 1) })) ∧
    (r.state = .piecing →
      o.spindle =
        if v = .below then { r with aboveRun := 0, observedRun := some false }
        else { r with aboveRun := min 15 (r.aboveRun + 1),
                      observedRun := if h.runConfirm ≤ min 15 (r.aboveRun + 1) then some true else r.observedRun }) ∧
    (∀ n, r.state = .verify → r.verifyCount = some n →
      let b := if v = .below then min 15 (r.belowRun + 1) else 0
      o.spindle =
        (if h.downConfirm ≤ b then
          { plain (if h.attemptsMax ≤ min 7 (r.attempts + 1) then .red else .down) with
            attempts := min 7 (r.attempts + 1), downSince := some idx }
        else if h.verifySweeps ≤ min 15 (n + 1) then
          if b = 0 then { plain .running with attempts := 0 }
          else { plain .suspect with belowRun := b, provisionalMm := 0, attempts := 0 }
        else { r with verifyCount := some (min 15 (n + 1)), belowRun := b })) ∧
    (r.state = .masked ∨ r.state = .doffPause → o.spindle = r) ∧
    (o.confirmed = true ↔ v = .below ∧
      ((r.state = .unknown ∨ r.state = .suspect) ∧ h.downConfirm ≤ min 15 (r.belowRun + 1) ∨
        (r.state = .running ∨ r.state = .slipping) ∧ h.downConfirm = 1)) ∧
    (o.doffStart = true ↔ o.confirmed = true ∧ r.afterDoff = true) ∧
    (o.handPieced = true ↔
      (r.state = .down ∨ r.state = .red) ∧ v ≠ .below ∧ h.runConfirm ≤ min 15 (r.aboveRun + 1)) ∧
    (o.handCreeled = true ↔ r.state = .rovingOut ∧ v ≠ .below ∧ h.runConfirm ≤ min 15 (r.aboveRun + 1)) ∧
    (o.falsePiece = true ↔
      r.state = .verify ∧ h.downConfirm ≤ if v = .below then min 15 (r.belowRun + 1) else 0) ∧
    o.moved = if r.state = .suspect ∧ v ≠ .below then min 4294967295 (r.copMm + r.provisionalMm) - r.copMm else 0

/-- SPINDLE_MASK masks every named spindle, with its job cancelled and its place in a queue given up; SPINDLE_UNMASK
brings every masked one back; CLEAR_RED returns every RED one to DOWN with its down_since. Each answers OK with the
number of spindles whose state it changed, or RANGE, which a kind that is no mask kind gives too (R38, R40; of R39 and R41
what it does to the spindle, its queue and its job). -/
def Obligations.MaskUnmaskAndClearRed : Prop :=
  ∀ (src tag f l : Nat) (s : State), s.accepts →
    (∀ k m, s.names f l → maskKindOfCode k = some m → s.quiet →
      ∃ t, exec (.spindleMask src tag f l k) s = .next t ∧
        s.answers t src tag 0x44 .ok
          (.count ((positionRange f l).filter fun p => (s.spindle p).state != .masked).length) ∧
        s.changesOnly [.alerts, .channels, .creel, .downLoad, .queues, .replies, .reports, .rows, .spindles, .units] t ∧
        (∀ p, f ≤ p → p ≤ l → t.spindle p =
          if (s.spindle p).state = .masked then { s.spindle p with mask := m }
          else { s.spindle p with
            state := .masked, mask := m, belowRun := 0, aboveRun := 0, attempts := 0, provisionalMm := 0,
            downSince := none, observedRun := none, verifyCount := none, queued := false }) ∧
        (∀ p, p < f ∨ l < p → t.spindle p = s.spindle p) ∧
        (∀ p c, f ≤ p → p ≤ l → (s.spindle p).state = .down → p ∉ t.breakQueue c) ∧
        (∀ p, ∀ c ∈ channelNumbers, f ≤ p → p ≤ l → (s.spindle p).state = .piecing → (s.channel c).job = some p →
          ((s.channel c).state = .offered ∨ (s.channel c).state = .busy) →
          (∀ d ∈ channelNumbers, (s.channel d).job = some p → d = c) →
          (t.channel c).state = .cancelling ∧ (t.channel c).cancelCause = some .cancelled ∧
            (t.channel c).job = none ∧ (t.channel c).seq = !(s.channel c).seq)) ∧
    (s.names f l →
      (∃ t, exec (.spindleUnmask src tag f l) s = .next t ∧
        s.answers t src tag 0x45 .ok
          (.count ((positionRange f l).filter fun p => (s.spindle p).state == .masked).length) ∧
        s.changesOnly [.spindles, .replies] t ∧
        ∀ p, t.spindle p =
          if f ≤ p ∧ p ≤ l ∧ (s.spindle p).state = .masked then { s.spindle p with
            state := if s.dc.state = .doffing ∨ (s.dc.state = .settle ∧ s.dc.settlePaused = some true) then .doffPause
              else .unknown
            mask := .none, belowRun := 0, aboveRun := 0, downSince := none, observedRun := none, verifyCount := none,
            afterDoff := false }
          else s.spindle p) ∧
      (∃ t, exec (.clearRed src tag f l) s = .next t ∧
        s.answers t src tag 0x46 .ok (.count ((positionRange f l).filter fun p => (s.spindle p).state == .red).length) ∧
        s.changesOnly [.alerts, .downLoad, .replies, .reports, .rows, .spindles] t ∧
        ∀ p, t.spindle p =
          if f ≤ p ∧ p ≤ l ∧ (s.spindle p).state = .red then { s.spindle p with
            state := .down, belowRun := 0, aboveRun := 0, attempts := 0, observedRun := none, verifyCount := none }
          else s.spindle p)) ∧
    (∀ k, ¬ s.names f l ∨ maskKindOfCode k = none →
      ∃ t, exec (.spindleMask src tag f l k) s = .next t ∧ s.answers t src tag 0x44 .range .none ∧
        s.changesOnly [.replies] t) ∧
    (¬ s.names f l →
      (∃ t, exec (.spindleUnmask src tag f l) s = .next t ∧ s.answers t src tag 0x45 .range .none ∧
        s.changesOnly [.replies] t) ∧
      (∃ t, exec (.clearRed src tag f l) s = .next t ∧ s.answers t src tag 0x46 .range .none ∧
        s.changesOnly [.replies] t))

/-! ### Length, cop and roving -/

/-- Step 4 of a close: a spindle in RUNNING, SLIPPING or VERIFY has d added to cop_mm, one in SUSPECT to
provisional_mm, each no more than the headroom under the frame delivered length, and no other spindle earns anything
(R49 to R51). Step 5: a bobbin that is LOADED or EMPTY_EST and whose prior roving-stop flag is clear is charged d ×
100 with its remainder, divided by draft_x100, and becomes EMPTY_EST at 0 behind a spinning spindle (R52 to R54). What the
bobbins of spindles in DOWN, RED, ROVING_OUT, UNKNOWN and MASKED lose is the close's waste (R55), and it is handed on with
the delivered length and the cop credit (R57). -/
def Obligations.CopCreditAndRovingCharge : Prop :=
  (∀ (sd : Side) (s : State) (p : Nat), s.copsCapped → p < 2048 →
    let t := (deliverLength sd s).1
    let d := (t.lengthSide sd).lastD
    let r := s.spindle p
    let credit := min d (t.dc.delivered - (r.copMm + r.provisionalMm))
    t.spindle p =
      if sideOf p = sd ∧ p < sd.base + (s.railOf sd).installed then
        if r.state = .running ∨ r.state = .slipping ∨ r.state = .verify then { r with copMm := r.copMm + credit }
        else if r.state = .suspect then { r with provisionalMm := min 65535 (r.provisionalMm + credit) }
        else r
      else r) ∧
  (∀ (sd : Side) (s : State), s.dc.active = none → (chargeRoving sd s).1 = s ∧ (chargeRoving sd s).2 = 0) ∧
  (∀ (sd : Side) (s : State) (p : Nat) (a : Article), s.dc.active = some a → p < 2048 →
    let d := (s.lengthSide sd).lastD
    let b := s.bobbin p
    let r := b.remainder + d * 100
    ((chargeRoving sd s).1).bobbin p =
      if (sideOf p = sd ∧ p < sd.base + (s.railOf sd).installed) ∧ (b.state = .loaded ∨ b.state = .emptyEst) ∧
          (s.railOf sd).priorMap.getD (p - sd.base) false = false then
        { b with
          remainder := r % a.draftX100
          remaining := b.remaining - r / a.draftX100
          state :=
            if b.state = .loaded ∧ b.remaining ≤ r / a.draftX100 ∧
                ((s.spindle p).state = .running ∨ (s.spindle p).state = .slipping ∨ (s.spindle p).state = .suspect ∨
                  (s.spindle p).state = .verify) then .emptyEst
            else b.state }
      else b) ∧
  (∀ (sd : Side) (s : State) (a : Article), s.dc.active = some a →
    let t := (chargeRoving sd s).1
    s.changesOnly [.bobbins] t ∧ (chargeRoving sd s).2 = ((s.positions sd).map fun p =>
      if (s.spindle p).state = .down ∨ (s.spindle p).state = .red ∨ (s.spindle p).state = .rovingOut ∨
          (s.spindle p).state = .unknown ∨ (s.spindle p).state = .masked then
        (s.bobbin p).remaining - (t.bobbin p).remaining
      else 0).sum) ∧
  ∀ (sd : Side) (moved : Nat) (s : State),
    let u := (deliverLength sd s).1
    (lengthAtClose sd moved s).1 = (chargeRoving sd u).1 ∧
    (lengthAtClose sd moved s).2 = ⟨((s.lengthSide sd).carry + (s.lengthSide sd).held * s.thresholds.mppQ) / 1024,
      ((s.positions sd).map fun p => (u.spindle p).copMm - (s.spindle p).copMm).sum + moved, (chargeRoving sd u).2⟩

/-- PRESET_BUILD sets the frame delivered length and brings every spindle within it, answered OK; past the full target
it is RANGE, and outside BUILD and NEAR_FULL PROTECTED (R58, R59). The length test it ends with is that of R94: the
lengths that keep the doff state, the one that takes BUILD to NEAR_FULL, the full target, which takes the frame to FULL
(R95; the doffer is not ready, so that the doff does not begin), and a length below the prewarn point, which takes NEAR_FULL
back to BUILD (R96). -/
def Obligations.PresetBuildCapsCops : Prop :=
  ∀ (src tag n : Nat) (s : State), s.accepts → s.quiet →
    (s.dc.state = .build ∧ n < s.dc.prewarnPoint ∨
        s.dc.state = .nearFull ∧ s.dc.prewarnPoint ≤ n ∧ n < s.dc.fullTarget →
      ∃ t, exec (.presetBuild src tag n) s = .next t ∧ s.answers t src tag 0x43 .ok .none ∧
        s.changesOnly [.doff, .spindles, .replies] t ∧ t.dc = { s.dc with delivered := n } ∧
        ∀ p, t.spindle p = { s.spindle p with
          copMm := min (s.spindle p).copMm n
          provisionalMm := min (s.spindle p).provisionalMm (n - min (s.spindle p).copMm n) }) ∧
    (s.dc.state = .build → s.dc.prewarnPoint ≤ n → n < s.dc.fullTarget →
      ∃ t, exec (.presetBuild src tag n) s = .next t ∧ s.answers t src tag 0x43 .ok .none ∧
        s.changesOnly [.doff, .spindles, .replies, .reports, .alerts, .rows, .units] t ∧
        t.dc.state = .nearFull ∧ t.dc.delivered = n) ∧
    (s.dc.state = .build ∨ s.dc.state = .nearFull → s.dc.dofferReady = false → n = s.dc.fullTarget →
      (∀ c ∈ channelNumbers, (s.channel c).state = .idle ∨ (s.channel c).state = .offline →
        (s.channel c).holdPending = false) →
      ∃ t, exec (.presetBuild src tag n) s = .next t ∧ s.answers t src tag 0x43 .ok .none ∧
        s.changesOnly [.alerts, .channels, .doff, .replies, .reports, .rows, .spindles, .units] t ∧
        t.dc = { s.dc with
          state := .full, settlePaused := none, protecting := true, delivered := n
          stopTimer := some (s.thresholds.stopLimit * 1000), clearTimer := some 30000 } ∧
        t.pd.protection = true ∧ (t.ceilingRow .doff).cause = true ∧ (t.ceilingRow .doff).mode = some .stop ∧
        (t.ceilingRow .doff).positioning = true) ∧
    (s.dc.state = .nearFull → n < s.dc.prewarnPoint → n < s.dc.fullTarget →
      ∃ t, exec (.presetBuild src tag n) s = .next t ∧ s.answers t src tag 0x43 .ok .none ∧
        s.changesOnly [.alerts, .doff, .replies, .reports, .rows, .spindles] t ∧
        t.dc = { s.dc with state := .build, settlePaused := none, delivered := n, dofferReady := false }) ∧
    (s.dc.state = .build ∨ s.dc.state = .nearFull → s.dc.fullTarget < n →
      ∃ t, exec (.presetBuild src tag n) s = .next t ∧ s.answers t src tag 0x43 .range .none ∧
        s.changesOnly [.replies] t) ∧
    (s.dc.state ≠ .build → s.dc.state ≠ .nearFull →
      ∃ t, exec (.presetBuild src tag n) s = .next t ∧ s.answers t src tag 0x43 .protected_ .none ∧
        s.changesOnly [.replies] t)

/-! ### Piecing Dispatcher -/

/-- A channel with queued spindles chooses the head of its queue where some queued spindle has waited max_wait closes
or more, and otherwise the spindle with the least travel distance in the carriage's direction, the lower number of two
at the same distance (R70). The offer that a STATUS of readiness or a hold clear leads to takes the chosen spindle for
the job: it goes to PIECING and out of the queue, the channel is OFFERED with offer polls 0, and JOB with the current
seq enters the unit's slot, or waits behind what stands there (R32, R71, R165). A spindle that the down-limit count
holds, as it does one of a false piece, leaves it as it is taken (R78; log entry 43). -/
def Obligations.ChannelChoosesByAgeThenTravel : Prop :=
  (∀ (s : State) (c p : Nat), c < 4 → s.choice c = some p → p < 2048 → (s.spindle p).state = .down →
    (s.channel c).state = .idle → (s.zone c).enabled = true → (s.channel c).block = false → s.pd.protection = false →
    s.quiet →
    let d := s.pd.downLoad.get (sideOf p)
    let counted : Prop := p ∈ d.falsePieces ++ d.unqueued ++ d.reds ++ d.outsideZones
    let offered (t : State) (x : Channel) : Prop :=
      t.channel c = { x with state := .offered, job := some p, offerPolls := some 0 } ∧
      t.pd.downLoad.get (sideOf p) = ⟨d.falsePieces.filter (· != p), d.unqueued.filter (· != p), d.reds.filter (· != p),
        d.outsideZones.filter (· != p)⟩ ∧
      t.pd.downLoad.get (sideOf p).other = s.pd.downLoad.get (sideOf p).other ∧
      (∀ d, d ≠ c → t.channel d = s.channel d) ∧
      t.spindle p = { s.spindle p with
        state := .piecing, belowRun := 0, aboveRun := 0, observedRun := some false, verifyCount := none, queued := false } ∧
      (∀ q, q ≠ p → t.spindle q = s.spindle q) ∧ ∀ d, t.breakQueue d = (s.breakQueue d).filter (· != p)
    (∀ src tag, s.accepts → (s.channel c).hold = true → (s.channel c).carriageReady = true →
      ∃ t, exec (.holdClear src tag c) s = .next t ∧ s.answers t src tag 0x47 .ok .none ∧
        s.changesOnly [.alerts, .channels, .doff, .downLoad, .queues, .replies, .reports, .rows, .spindles, .units] t ∧
        (¬ counted → s.changesOnly [.channels, .doff, .queues, .replies, .spindles, .units] t) ∧
        offered t { s.channel c with hold := false, holdPending := false, heldByDoff := false } ∧
        ∀ a, (s.zone c).address = some a → 1 ≤ a → a ≤ 7 → (s.unit a).state ≠ .absent → (s.unit a).waiting = [] →
          let job : BusMsg := .job c p (s.channel c).seq
          if (s.unit a).slot = none then (t.unit a).slot = some job ∧ (t.unit a).waiting = []
          else (t.unit a).slot = (s.unit a).slot ∧ (t.unit a).waiting = [job]) ∧
    ∀ (x : Exchange) (cause : Bool), s.answersPoll x .carriage cause → s.channelsAt x.addr = [c] →
      (s.channel c).hold = false → (s.channel c).carriageReady = false →
      ∃ t, exec (.status x.addr cause true) s = .next t ∧ s.answered t x (some .ack) ∧
        s.changesOnly [.alerts, .channels, .cycle, .doff, .downLoad, .queues, .reports, .rows, .spindles, .units] t ∧
        (¬ counted → s.changesOnly [.channels, .cycle, .doff, .queues, .spindles, .units] t) ∧
        offered t { s.channel c with carriageReady := true } ∧
        ((s.unit x.addr).slot = none → (s.unit x.addr).waiting = [] →
          (t.unit x.addr).slot = some (.job c p (s.channel c).seq))) ∧
  ∀ (s : State) (c : Nat),
    let z := s.zone c
    let x := s.channel c
    let age (q : Nat) : Nat := (s.railOf z.side).sweepIndex - (s.spindle q).downSince.getD 0
    let distance (q : Nat) : Nat :=
      match x.direction with
      | .up => if x.position ≤ q then q - x.position else (z.last - x.position) + (z.last - q)
      | .down => if q ≤ x.position then x.position - q else (x.position - z.first) + (q - z.first)
    (s.choice c = none ↔ s.breakQueue c = []) ∧
    ∀ p, s.choice c = some p → p ∈ s.breakQueue c ∧
      ((∃ q ∈ s.breakQueue c, s.thresholds.maxWait ≤ age q) → (s.breakQueue c).head? = some p) ∧
      ((∀ q ∈ s.breakQueue c, age q < s.thresholds.maxWait) →
        ∀ q ∈ s.breakQueue c, distance p < distance q ∨ (distance p = distance q ∧ p ≤ q))

/-- The insertion rule (R64): a spindle takes the place in its queue that its down_since gives it; a queue of 64 keeps
the 64 oldest of its entries and the new spindle, and a spindle is queued exactly while it stands in the queue. The
sweep-in of a zone puts every spindle of it that is DOWN and not queued into its queue, here where there is room for
all (R65). The down-limit count of a side is its spindles DOWN and not queued and its RED ones, with the two lamp
facts, and DOWN_LIMIT is the cause of its row while either side's count exceeds the limit (R67). The DOWN spindle of a
false piece counts also where it is queued, until it is taken again (R78; that this adds to R67 is the model's
reading, log entry 56). A counted spindle that is masked, and a RED one that is cleared, leaves the count at once, and
the cause is tested then (R39, R41; when it is tested is the model's reading, log entry 43). At step 7 of a close the
hand-pieced spindles leave their queues, the false pieces and the confirmed ones join theirs, the sweep-in and the
count follow, and then the offers (R65). -/
def Obligations.InsertionKeepsQueueByAge : Prop :=
  (∀ (s : State) (c : Nat), c < 4 → (s.zone c).last < 2048 →
    let z := s.zone c
    let fresh := ((List.range (z.last + 1 - z.first)).map (z.first + ·)).filter fun p =>
      (s.spindle p).state == .down && !(s.spindle p).queued
    (s.breakQueue c).length + fresh.length ≤ 64 →
    let t := sweepInZone c s
    s.changesOnly [.queues, .spindles] t ∧ List.Perm (t.breakQueue c) (fresh ++ s.breakQueue c) ∧
    (∀ d, d ≠ c → t.breakQueue d = s.breakQueue d) ∧
    ∀ p, t.spindle p = if p ∈ fresh then { s.spindle p with queued := true } else s.spindle p) ∧
  (∀ (sd : Side) (falsePieces confirmed : List Nat) (s : State),
    let t := countDownLoad sd falsePieces confirmed s
    let reds := (s.positions sd).filter fun p => (s.spindle p).state == .red
    let isFalse (p : Nat) : Prop := p ∉ confirmed ∧ (p ∈ falsePieces ∨ p ∈ (s.pd.downLoad.get sd).falsePieces)
    let kept := (s.positions sd).filter fun p =>
      (s.spindle p).state = .down ∧ ((s.spindle p).queued = false ∨ isFalse p)
    s.changesOnly [.alerts, .downLoad, .reports, .rows] t ∧
    (t.pd.downLoad.get sd).count = kept.length + reds.length ∧
    (∀ p, p ∈ (t.pd.downLoad.get sd).falsePieces ↔ p ∈ s.positions sd ∧ (s.spindle p).state = .down ∧ isFalse p) ∧
    ((t.pd.downLoad.get sd).redStands = true ↔ reds ≠ []) ∧
    ((t.pd.downLoad.get sd).downOutsideZones = true ↔ ∃ p ∈ s.positions sd, (s.spindle p).state = .down ∧
      ∀ c, c < 4 → ¬ ((s.zone c).enabled = true ∧ (s.zone c).side = sideOf p ∧ (s.zone c).first ≤ p ∧
        p ≤ (s.zone c).last)) ∧
    t.pd.downLoad.get sd.other = s.pd.downLoad.get sd.other ∧
    ((t.ceilingRow .downLimit).cause = true ↔ s.thresholds.downLimit < kept.length + reds.length ∨
      s.thresholds.downLimit < (s.pd.downLoad.get sd.other).count)) ∧
  (∀ (src tag p : Nat) (s : State), s.accepts → s.names p p →
    let d := s.pd.downLoad.get (sideOf p)
    let left (t : State) : Prop :=
      let e := t.pd.downLoad.get (sideOf p)
      let o := s.pd.downLoad.get (sideOf p).other
      let number (d : DownLoad) : Nat := d.falsePieces.length + d.unqueued.length + d.reds.length
      e = ⟨d.falsePieces.filter (· != p), d.unqueued.filter (· != p), d.reds.filter (· != p),
        d.outsideZones.filter (· != p)⟩ ∧
      t.pd.downLoad.get (sideOf p).other = o ∧
      (p ∈ d.falsePieces ++ d.unqueued ++ d.reds ++ d.outsideZones →
        ((t.ceilingRow .downLimit).cause = true ↔
          s.thresholds.downLimit < number e ∨ s.thresholds.downLimit < number o))
    ((s.spindle p).state = .red → ∃ t, exec (.clearRed src tag p p) s = .next t ∧ left t ∧
      (t.spindle p).state = .down ∧ ∀ c, t.breakQueue c = s.breakQueue c) ∧
    ∀ k m, (s.spindle p).state = .red ∨ (s.spindle p).state = .down → s.quiet → maskKindOfCode k = some m →
      ∃ t, exec (.spindleMask src tag p p k) s = .next t ∧ left t) ∧
  (∀ (sd : Side) (handPieced falsePieces confirmed : List Nat) (s : State),
    let s1 := handPieced.foldl (fun x p => dequeue p x) s
    let s2 := (falsePieces ++ confirmed).foldl (fun x p => requeue p x) s1
    let s3 := [0, 1, 2, 3].foldl
      (fun x c => if (x.zone c).enabled = true ∧ (x.zone c).side = sd then sweepInZone c x else x) s2
    piecingAtClose sd handPieced falsePieces confirmed s =
      [0, 1, 2, 3].foldl (fun x c => offerNow c x) (countDownLoad sd falsePieces confirmed s3)) ∧
  ∀ (s : State) (c p : Nat), c < 4 → p < 2048 → p ∉ s.breakQueue c → (s.breakQueue c).length ≤ 64 →
    (∀ q ∈ s.breakQueue c, q < 2048 ∧ (s.spindle q).queued = true) → (s.spindle p).queued = false →
    (s.breakQueue c).Pairwise (fun x y => s.older x y = true) →
    let t := insertSpindle c p s
    let q := t.breakQueue c
    s.changesOnly [.queues, .spindles] t ∧ q.Pairwise (fun x y => s.older x y = true) ∧
    ((s.breakQueue c).length < 64 → List.Perm q (p :: s.breakQueue c)) ∧
    ((s.breakQueue c).length = 64 → ∃ y, List.Perm (y :: q) (p :: s.breakQueue c) ∧ ∀ x ∈ q, s.older x y = true) ∧
    (∀ d, d ≠ c → t.breakQueue d = s.breakQueue d) ∧
    ∀ x, x = p ∨ x ∈ s.breakQueue c → ((t.spindle x).queued = true ↔ x ∈ q)

/-- ACCEPT with the current seq takes an OFFERED channel without block to BUSY with the job timer at job_limit,
answered ACK (R73); in the other states it changes no channel and is answered by the table of R76: ACK from a BUSY
channel with the current seq, REFUSED otherwise, and REFUSED under block. POSITION sets the carriage's position,
within the bounds of an enabled zone, and its direction; STATUS sets carriage_ready; both are answered ACK whatever
the channel's state and block are (R77); that a disabled row's channel keeps any two-byte number as its position is the model's
choice (log entry 83). An OFFERED channel refuses an ACCEPT with the other seq, or under block, and the same
poll counts as an offer poll where it carried the JOB or followed it (R72, R76). For POSITION and STATUS the channel is not
OFFERED, and where STATUS makes it ready nothing waits for it. -/
def Obligations.CarriageMessagesActByState : Prop :=
  (∀ (s : State) (x : Exchange) (cause q : Bool) (c : Nat), s.answersPoll x .carriage cause → s.channelsAt x.addr = [c] →
     ((s.channel c).state = .offered → (s.channel c).block = false → q = (s.channel c).seq →
       ∃ t, exec (.accept x.addr cause q) s = .next t ∧ s.answered t x (some .ack) ∧
         s.changesOnly [.channels, .units, .cycle] t ∧
         t.channel c = { s.channel c with
           state := .busy, offerMisses := 0, offerPolls := none, jobTimer := some (s.thresholds.jobLimit * 1000) } ∧
         ∀ d, d ≠ c → t.channel d = s.channel d) ∧
     ((s.channel c).state ≠ .offered →
       ∃ t, exec (.accept x.addr cause q) s = .next t ∧
         s.answered t x (some (if (s.channel c).block = false ∧ q = (s.channel c).seq ∧ (s.channel c).state = .busy
           then .ack else .refused)) ∧
         s.changesOnly [.units, .cycle] t) ∧
     ((s.channel c).state = .offered → (s.channel c).block = true ∨ q ≠ (s.channel c).seq →
       let polls := (s.channel c).offerPolls.getD 0
       let carried : Prop := ∃ p, (s.channel c).job = some p ∧ x.msg = some (.job c p (s.channel c).seq)
       (¬ carried → polls = 0 →
         ∃ t, exec (.accept x.addr cause q) s = .next t ∧ s.answered t x (some .refused) ∧
           s.changesOnly [.units, .cycle] t) ∧
       (carried ∨ 0 < polls → polls < 2 →
         ∃ t, exec (.accept x.addr cause q) s = .next t ∧ s.answered t x (some .refused) ∧
           s.changesOnly [.channels, .units, .cycle] t ∧
           t.channel c = { s.channel c with offerPolls := some (polls + 1) } ∧
           ∀ d, d ≠ c → t.channel d = s.channel d))) ∧
  (∀ (s : State) (x : Exchange) (cause : Bool) (c : Nat), s.answersPoll x .carriage cause → s.channelsAt x.addr = [c] →
     (s.channel c).state ≠ .offered →
     (∀ p d, ∃ t, exec (.position x.addr cause p d) s = .next t ∧ s.answered t x (some .ack) ∧
       s.changesOnly [.channels, .units, .cycle] t ∧
       t.channel c = { s.channel c with
         position := if (s.zone c).enabled then max (s.zone c).first (min (s.zone c).last p) else p
         direction := d } ∧
       ∀ e, e ≠ c → t.channel e = s.channel e) ∧
     (∀ r, (r = true → s.breakQueue c = []) →
       ∃ t, exec (.status x.addr cause r) s = .next t ∧ s.answered t x (some .ack) ∧
         s.changesOnly [.channels, .units, .cycle] t ∧ t.channel c = { s.channel c with carriageReady := r } ∧
         ∀ e, e ≠ c → t.channel e = s.channel e))

/-- DONE with the current seq ends a BUSY channel's job, under block too: it is answered ACK, the channel becomes IDLE
with its seq toggled, and the spindle goes where the outcome sends it (R33, R34, R37, R74, R115). With the other seq
it ends CANCELLING, answered LATE, or ACK where the job was cancelled (R79). Every other DONE changes no channel and is
answered by the table of R76: in IDLE and OFFERED LATE with the current seq and ACK with the other, in BUSY with the other
seq ACK, in CANCELLING with the current seq and in OFFLINE REFUSED, and REFUSED under block; of an OFFERED channel the poll is
one that its offer does not count (R72). At IDLE hold_pending becomes hold, and auto_hold sets hold after a job that DONE
ended (R75). Where the channel becomes IDLE it is held then, blocked or not ready, so that it offers nothing; no doff is
under way, and its own zone covers the spindle. -/
def Obligations.DoneEndsJobByOutcome : Prop :=
  ∀ (s : State) (x : Exchange) (cause q : Bool) (o : CarriageOutcome) (c : Nat),
    s.answersPoll x .carriage cause → s.channelsAt x.addr = [c] → s.pd.protection = false → s.dc.state ≠ .full →
    let held := (s.channel c).hold || (s.channel c).holdPending
    let noOffer (h : Bool) : Prop := h = true ∨ (s.channel c).block = true ∨ (s.channel c).carriageReady = false
    (∀ p, noOffer (held || (s.channel c).autoHold) →
      (s.channel c).state = .busy → q = (s.channel c).seq → (s.channel c).job = some p → p < 2048 →
      (s.spindle p).state = .piecing → s.zoneOf p = some c →
      ∃ t, exec (.done x.addr cause q o) s = .next t ∧ s.answered t x (some .ack) ∧
        s.changesOnly [.alerts, .bobbins, .channels, .creel, .cycle, .doff, .queues, .reports, .shift, .spindles,
          .transport, .units] t ∧
        (o ≠ .noRoving → s.changesOnly [.alerts, .channels, .cycle, .doff, .queues, .reports, .shift, .spindles, .units] t) ∧
        (t.channel c).state = .idle ∧ (t.channel c).job = none ∧ (t.channel c).jobTimer = none ∧
        (t.channel c).seq = !(s.channel c).seq ∧
        (t.channel c).hold = (held || (s.channel c).autoHold) ∧ (t.channel c).holdPending = false ∧
        (∀ d, d ≠ c → t.channel d = s.channel d) ∧
        (o = .pieced → (s.spindle p).observedRun = some true →
          (t.spindle p).state = .running ∧ (t.spindle p).attempts = 0) ∧
        (o = .pieced → (s.spindle p).observedRun ≠ some true →
          (t.spindle p).state = .verify ∧ (t.spindle p).verifyCount = some 0) ∧
        (o = .failed ∨ o = .aborted → (t.spindle p).attempts = min 7 ((s.spindle p).attempts + 1) ∧
          ((t.spindle p).state = .red ↔ s.thresholds.attemptsMax ≤ min 7 ((s.spindle p).attempts + 1)) ∧
          ((t.spindle p).state = .down ↔ ¬ s.thresholds.attemptsMax ≤ min 7 ((s.spindle p).attempts + 1)) ∧
          (t.spindle p).downSince = (s.spindle p).downSince) ∧
        (o = .noRoving → (t.spindle p).state = .rovingOut ∧ (t.bobbin p).state = .out) ∧
        (o = .blocked → (t.spindle p).state = .red ∧ (t.spindle p).attempts = (s.spindle p).attempts) ∧
        ∀ r, r ≠ p → (t.spindle r).state = (s.spindle r).state) ∧
    (noOffer held → (s.channel c).state = .cancelling → q ≠ (s.channel c).seq →
      ∃ t, exec (.done x.addr cause q o) s = .next t ∧
        s.answered t x (some (if (s.channel c).cancelCause = some .cancelled then .ack else .late)) ∧
        s.changesOnly [.channels, .cycle, .doff, .units] t ∧ (t.channel c).state = .idle ∧
        (t.channel c).cancelCause = none ∧ (t.channel c).cancelTimer = none ∧
        (t.channel c).seq = (s.channel c).seq ∧ (t.channel c).hold = held ∧ (t.channel c).holdPending = false ∧
        ∀ d, d ≠ c → t.channel d = s.channel d) ∧
    (¬ ((s.channel c).state = .busy ∧ q = (s.channel c).seq) →
      ¬ ((s.channel c).state = .cancelling ∧ q ≠ (s.channel c).seq) →
      ((s.channel c).state = .offered → (s.channel c).offerPolls.getD 0 = 0 ∧
        ∀ p, x.msg ≠ some (.job c p (s.channel c).seq)) →
      ∃ t, exec (.done x.addr cause q o) s = .next t ∧ s.changesOnly [.cycle, .units] t ∧
        s.answered t x (some
          (if (s.channel c).block = true then .refused
          else match (s.channel c).state with
            | .idle | .offered => if q = (s.channel c).seq then .late else .ack
            | .busy => .ack
            | .cancelling | .offline => .refused)))

/-- OFFER_WITHDRAWN: the third poll without an ACCEPT returns the spindle to DOWN and to its queue, toggles the seq
and counts an offer miss; the third miss takes the channel OFFLINE with the CARRIAGE_OFFLINE alert and a report, and
before it the channel becomes IDLE (R34, R66, R68, R72), where its hold_pending becomes hold (R75). The channel is held then,
blocked or not ready, or this is the third miss, so that it does not offer again. The row is
a command of its own, apart from the answer that brings it (the model's choice, log entry 2). -/
def Obligations.UnansweredOfferIsWithdrawn : Prop :=
  ∀ (s : State) (c p : Nat), s.quiet → c < 4 → p < 2048 → (s.channel c).state = .offered →
    (s.channel c).offerPolls = some 2 → (s.channel c).job = some p →
    (s.channel c).hold = true ∨ (s.channel c).holdPending = true ∨ (s.channel c).block = true ∨
      (s.channel c).carriageReady = false ∨ 2 ≤ (s.channel c).offerMisses →
    (s.spindle p).state = .piecing → (s.spindle p).queued = false → s.zoneOf p = some c →
    (s.breakQueue c).length < 64 → s.pd.protection = false → s.dc.state ≠ .full → s.mli.reports.length < 96 →
    ∃ t, exec (.offerWithdrawn c) s = .next t ∧
      s.changesOnly [.alerts, .channels, .doff, .queues, .reports, .spindles, .units] t ∧
      (t.spindle p).state = .down ∧ (t.spindle p).downSince = (s.spindle p).downSince ∧
      (t.spindle p).attempts = (s.spindle p).attempts ∧ (t.spindle p).queued = true ∧ p ∈ t.breakQueue c ∧
      (t.channel c).seq = !(s.channel c).seq ∧ (t.channel c).job = none ∧ (t.channel c).offerPolls = none ∧
      (t.channel c).offerMisses = min 3 ((s.channel c).offerMisses + 1) ∧
      (∀ d, d ≠ c → t.channel d = s.channel d) ∧
      if 2 ≤ (s.channel c).offerMisses then
        (t.channel c).state = .offline ∧ (t.channel c).offlineCause = some .misses ∧
          s.occurs t .carriageOffline (some c) ∧ s.posts t [.channelState c .offline (some .misses)]
      else (t.channel c).state = .idle ∧ t.mli.reports = s.mli.reports ∧
        (t.channel c).hold = ((s.channel c).hold || (s.channel c).holdPending) ∧ (t.channel c).holdPending = false

/-- JOB_TIMER_EXPIRY takes a BUSY channel to CANCELLING with cause TIMEOUT, a failed attempt counted and CANCEL with
the job's seq in an empty slot, in the place of the channel's own message that no poll has carried, or behind another
message (R34, R80, R165; log entry 31); CANCEL_TIMER_EXPIRY takes a CANCELLING channel to IDLE, where its hold_pending
becomes hold, and which can make no offer there (R75, R79); CLEAR_TIMER_EXPIRY in FULL cancels every channel that is
OFFERED or BUSY with cause CLEARED (R83, R98). -/
def Obligations.ChannelTimersCancelAndRelease : Prop :=
  (∀ (s : State) (c p : Nat), s.quiet → c < 4 → p < 2048 → (s.channel c).state = .busy → (s.channel c).job = some p →
    (s.spindle p).state = .piecing → s.zoneOf p = some c → (s.spindle p).queued = false → (s.breakQueue c).length < 64 →
    ∃ t, exec (.jobTimerExpiry c) s = .next t ∧
      s.changesOnly [.alerts, .channels, .queues, .reports, .shift, .spindles, .units] t ∧
      (t.channel c).state = .cancelling ∧ (t.channel c).cancelCause = some .timeout ∧ (t.channel c).job = none ∧
      (t.channel c).jobTimer = none ∧ (t.channel c).cancelTimer = some 10000 ∧
      (t.channel c).seq = !(s.channel c).seq ∧ (∀ d, d ≠ c → t.channel d = s.channel d) ∧
      (t.spindle p).attempts = min 7 ((s.spindle p).attempts + 1) ∧
      (if s.thresholds.attemptsMax ≤ min 7 ((s.spindle p).attempts + 1) then (t.spindle p).state = .red
        else (t.spindle p).state = .down ∧ p ∈ t.breakQueue c) ∧
      ∀ a, (s.zone c).address = some a → 1 ≤ a → a ≤ 7 → (s.unit a).state ≠ .absent → (s.unit a).waiting = [] →
        let cancel : BusMsg := .cancel c (s.channel c).seq
        let own (m : BusMsg) : Prop := (∃ k q, m = .job c k q) ∨ (∃ q, m = .cancel c q) ∨ m = .park c
        ((s.unit a).slot = none → (t.unit a).slot = some cancel ∧ (t.unit a).waiting = []) ∧
        ∀ m, (s.unit a).slot = some m →
          ((s.unit a).carried = false → own m → (t.unit a).slot = some cancel ∧ (t.unit a).waiting = []) ∧
          ((s.unit a).carried = true ∨ ¬ own m → (t.unit a).slot = some m ∧ (t.unit a).waiting = [cancel])) ∧
  (∀ (s : State) (c : Nat), s.quiet → c < 4 → (s.channel c).state = .cancelling →
    (s.channel c).hold = true ∨ (s.channel c).holdPending = true ∨ (s.channel c).block = true ∨
      (s.channel c).carriageReady = false ∨ s.breakQueue c = [] →
    s.pd.protection = false → s.dc.state ≠ .full →
    ∃ t, exec (.cancelTimerExpiry c) s = .next t ∧ s.changesOnly [.channels, .doff] t ∧
      (t.channel c).state = .idle ∧ (t.channel c).cancelCause = none ∧ (t.channel c).cancelTimer = none ∧
      (t.channel c).hold = ((s.channel c).hold || (s.channel c).holdPending) ∧ (t.channel c).holdPending = false ∧
      ∀ d, d ≠ c → t.channel d = s.channel d) ∧
  (∀ s : State, s.quiet → s.dc.state = .full → s.dc.clearTimer.isSome = true →
    (∀ c ∈ channelNumbers, (s.channel c).state = .idle → (s.channel c).hold = true) →
    ∃ t, exec .clearTimerExpiry s = .next t ∧
      s.changesOnly [.alerts, .channels, .doff, .queues, .reports, .spindles, .units] t ∧
      t.dc = { s.dc with clearTimer := none } ∧
      ∀ c ∈ channelNumbers,
        if (s.channel c).state = .offered ∨ (s.channel c).state = .busy then
          (t.channel c).state = .cancelling ∧ (t.channel c).cancelCause = some .cleared ∧
            (t.channel c).seq = !(s.channel c).seq ∧ (t.channel c).job = none
        else t.channel c = s.channel c)

/-- CHANNEL_CONTROL, part by part, answered OK (R85): on a channel that is not OFFERED and has nothing queued each
part sets or clears its fields. A hold set on a channel in a job waits in hold_pending; a block set on an OFFERED
channel cancels the offer (R81). CHANNEL_CONTROL is refused with nothing changed: a channel outside 0 to 3 with RANGE,
a hold clear or a block set under doff protection with PROTECTED, a seq set on a channel in a job with BUSY (R85). -/
def Obligations.ChannelControlSetsItsPartsOrRefuses : Prop :=
  (∀ (src tag c : Nat) (s : State), s.accepts → s.quiet → c < 4 → s.pd.protection = false →
     (let ok (i : Instr) (x : Channel) : Prop :=
       ∃ t, exec i s = .next t ∧ s.answers t src tag 0x47 .ok .none ∧ s.changesOnly [.channels, .replies] t ∧
         t.channel c = x ∧ ∀ d, d ≠ c → t.channel d = s.channel d
     (s.channel c).state ≠ .offered → s.breakQueue c = [] →
       ok (.holdSet src tag c) (if (s.channel c).state = .idle ∨ (s.channel c).state = .offline
         then { s.channel c with hold := true } else { s.channel c with holdPending := true }) ∧
       ok (.holdClear src tag c) { s.channel c with hold := false, holdPending := false, heldByDoff := false } ∧
       ok (.blockSet src tag c) { s.channel c with block := true } ∧
       ok (.blockClear src tag c) { s.channel c with block := false } ∧
       ok (.autoHoldSet src tag c) { s.channel c with autoHold := true } ∧
       ok (.autoHoldClear src tag c) { s.channel c with autoHold := false } ∧
       ∀ v, (s.channel c).state = .idle ∨ ((s.channel c).state = .offline ∧ (s.channel c).offlineCause ≠ some .misses) →
         ok (.seqSet src tag c v) { s.channel c with seq := v }) ∧
     ((s.channel c).state = .offered →
       ∃ t, exec (.blockSet src tag c) s = .next t ∧ s.answers t src tag 0x47 .ok .none ∧
         (t.channel c).state = .cancelling ∧ (t.channel c).cancelCause = some .cancelled ∧ (t.channel c).block = true)) ∧
  (∀ (src tag c : Nat) (s : State), s.accepts →
     let refused (i : Instr) (code : ReplyCode) : Prop :=
       ∃ t, exec i s = .next t ∧ s.answers t src tag 0x47 code .none ∧ s.changesOnly [.replies] t
     (3 < c → refused (.holdSet src tag c) .range ∧ refused (.holdClear src tag c) .range ∧
       refused (.blockSet src tag c) .range ∧ refused (.blockClear src tag c) .range ∧
       refused (.autoHoldSet src tag c) .range ∧ refused (.autoHoldClear src tag c) .range ∧
       ∀ v, refused (.seqSet src tag c v) .range) ∧
     (c < 4 → s.pd.protection = true →
       refused (.holdClear src tag c) .protected_ ∧ refused (.blockSet src tag c) .protected_) ∧
     (c < 4 → (s.channel c).state = .offered ∨ (s.channel c).state = .busy ∨ (s.channel c).state = .cancelling →
       ∀ v, refused (.seqSet src tag c v) .busy))

/-! ### Doff Controller -/

/-- DOFF_NOW in BUILD or NEAR_FULL, and a rising edge of DOFF_CALL there, take the frame to FULL: both timers are
loaded, protection is in force with every channel held, the DOFF row asks for STOP with positioning (R82, R95, R108).
In FULL DOFF_NOW is answered OK and changes nothing, elsewhere PROTECTED; a DOFF_CALL change that is no rising edge, or in
any other state, is only the line's.
The doffer is not ready, so that the doff does not begin at once. -/
def Obligations.DoffCallTakesFrameFull : Prop :=
  ∀ (src tag : Nat) (s : State), s.accepts → s.quiet →
    ((s.dc.state = .build ∨ s.dc.state = .nearFull) → s.dc.dofferReady = false →
      (∀ c ∈ channelNumbers, (s.channel c).state = .idle ∨ (s.channel c).state = .offline →
        (s.channel c).holdPending = false) →
      (let full (t : State) : Prop :=
        t.dc = { s.dc with
          state := .full, settlePaused := none, protecting := true
          stopTimer := some (s.thresholds.stopLimit * 1000), clearTimer := some 30000 } ∧
        t.pd.protection = true ∧
        (t.ceilingRow .doff).cause = true ∧ (t.ceilingRow .doff).mode = some .stop ∧
        (t.ceilingRow .doff).positioning = true ∧
        (s.pd.protection = false → ∀ c ∈ channelNumbers, (t.channel c).block = false ∧
          ((s.channel c).state = .idle ∨ (s.channel c).state = .offline → (t.channel c).hold = true))
      (∃ t, exec (.doffNow src tag) s = .next t ∧ s.answers t src tag 0x41 .ok .none ∧ full t ∧
        s.changesOnly [.alerts, .channels, .doff, .replies, .reports, .rows, .units] t) ∧
      (s.dcu.lines.doffCall = false → ∃ t, exec (.doffCall true) s = .next t ∧ full t ∧
        t.dcu.lines.doffCall = true ∧
        s.changesOnly [.alerts, .channels, .doff, .panel, .reports, .rows, .units] t))) ∧
    (s.dc.state = .full → ∃ t, exec (.doffNow src tag) s = .next t ∧ s.answers t src tag 0x41 .ok .none ∧
      s.changesOnly [.replies] t) ∧
    (s.dc.state ≠ .build → s.dc.state ≠ .nearFull → s.dc.state ≠ .full →
      ∃ t, exec (.doffNow src tag) s = .next t ∧ s.answers t src tag 0x41 .protected_ .none ∧
        s.changesOnly [.replies] t) ∧
    (∀ v, v = false ∨ s.dcu.lines.doffCall = true ∨ (s.dc.state ≠ .build ∧ s.dc.state ≠ .nearFull) →
      ∃ t, exec (.doffCall v) s = .next t ∧ t.dcu.lines.doffCall = v ∧ s.changesOnly [.panel] t)

/-- STOP_TIMER_EXPIRY in FULL, DOFF_TIMER_EXPIRY in DOFFING and the doffer's FAULT in DOFFING enter DOFF_FAULT: the
timers stop, the origin and the reason are kept, doffer_ready becomes no, the DOFFER_FAULT alert is raised and both
rows are set (R97, R102, R106, R108). A doffer's FAULT in another state clears doffer_ready alone (R96). -/
def Obligations.DoffFaultsAreEntered : Prop :=
  ∀ s : State, s.quiet →
    (let entered (t : State) (o : DoffOrigin) (r : FaultReason) : Prop :=
      t.dc = { s.dc with
        state := .doffFault, settlePaused := none, stopTimer := none, clearTimer := none, doffTimer := none
        origin := some o, faultReason := some r, dofferReady := false } ∧
      (t.alert .dofferFault).pending = true ∧ (t.ceilingRow .doffFault).cause = true ∧
      (t.ceilingRow .doff).cause = true ∧ (t.ceilingRow .doff).mode = some .stop
    (s.dc.state = .full → s.dc.stopTimer.isSome = true →
      ∃ t, exec .stopTimerExpiry s = .next t ∧ entered t .full .stopTimeout ∧
        s.changesOnly [.alerts, .doff, .reports, .rows, .units] t) ∧
    (s.dc.state = .doffing → s.dc.doffTimer.isSome = true →
      ∃ t, exec .doffTimerExpiry s = .next t ∧ entered t .doffing .doffTimeout ∧
        s.changesOnly [.alerts, .doff, .reports, .rows, .units] t) ∧
    ∀ x cause, s.answersPoll x .doffer cause → s.channelsAt x.addr = [] →
      (s.dc.state = .doffing → ∃ t, exec (.fault x.addr cause) s = .next t ∧ entered t .doffing .dofferFault ∧
        s.answered t x (some .ack) ∧ s.changesOnly [.alerts, .cycle, .doff, .reports, .rows, .units] t) ∧
      (s.dc.state ≠ .doffing → ∃ t, exec (.fault x.addr cause) s = .next t ∧
        t.dc = { s.dc with dofferReady := false } ∧ s.answered t x (some .ack) ∧
        s.changesOnly [.cycle, .doff, .units] t))

/-- The doffer's READY in NEAR_FULL makes doffer_ready; in FULL, with the drive at the doff position and the carriages
clear, it begins the doff (R96, R97, R99): the timers are exchanged, the doff number advances, the cop record of both
sides is kept, reported and counted in each configured side's shift record (R100, R101), every cop returns to 0 with the
delivered length, every installed spindle that is not MASKED pauses and leaves its queue and the down-limit count (R35), the
next article becomes active, the deferral is over and DOFF_START goes to the doffer. In FULL without one of the other two
facts READY makes doffer_ready alone. -/
def Obligations.ReadyDofferBeginsDoff : Prop :=
  ∀ (s : State) (x : Exchange) (cause : Bool), s.answersPoll x .doffer cause → s.channelsAt x.addr = [] →
    (s.dc.state = .nearFull → ∃ t, exec (.ready x.addr cause) s = .next t ∧ s.answered t x (some .ack) ∧
      s.changesOnly [.cycle, .doff, .units] t ∧ t.dc = { s.dc with dofferReady := true }) ∧
    (s.dc.state ≠ .nearFull → s.dc.state ≠ .full → ∃ t, exec (.ready x.addr cause) s = .next t ∧
      s.answered t x (some .ack) ∧ s.changesOnly [.cycle, .units] t) ∧
    (s.dc.state = .full → s.dc.driveAtDoff = false ∨ s.dc.carriagesClear = false →
      ∃ t, exec (.ready x.addr cause) s = .next t ∧ s.answered t x (some .ack) ∧
        s.changesOnly [.cycle, .doff, .units] t ∧ t.dc = { s.dc with dofferReady := true }) ∧
    (s.dc.state = .full → s.dc.driveAtDoff = true → s.dc.carriagesClear = true →
      ∃ t, exec (.ready x.addr cause) s = .next t ∧ s.answered t x (some .ack) ∧
        s.changesOnly [.alerts, .channels, .creel, .cycle, .doff, .downLoad, .queues, .reports, .rows, .shift, .spindles,
          .units] t ∧
        t.dc.state = .doffing ∧ t.dc.stopTimer = none ∧ t.dc.clearTimer = none ∧
        t.dc.doffTimer = some (s.thresholds.doffLimit * 1000) ∧ t.dc.doffNumber = s.dc.doffNumber + 1 ∧
        (let cop : CopRecord :=
          { sides := ⟨s.copSide .a, s.copSide .b⟩
            article := match s.dc.active with | some a => a.number | none => 0
            doffNumber := s.dc.doffNumber + 1
            delivered := s.dc.delivered
            sweepIndex := (s.railOf (if (s.railOf .a).installed = 0 then .b else .a)).sweepIndex }
        t.dc.lastCop = some cop ∧ (∃ g, ⟨true, g, .cop cop⟩ ∈ t.mli.reports)) ∧
        (∀ sd, t.shiftSide sd = if (s.railOf sd).installed = 0 then s.shiftSide sd else { s.shiftSide sd with
          current := { (s.shiftSide sd).current with
            shortCops := min 4294967295 ((s.shiftSide sd).current.shortCops + (s.copSide sd).short)
            doffs := min 4294967295 ((s.shiftSide sd).current.doffs + 1) } }) ∧
        (∀ p, s.installed p = true → (s.spindle p).state = .down ∨ (s.spindle p).state = .red →
          (∀ c, p ∉ t.breakQueue c) ∧ let d := t.pd.downLoad.get (sideOf p)
            p ∉ d.falsePieces ∧ p ∉ d.unqueued ∧ p ∉ d.reds ∧ p ∉ d.outsideZones) ∧
        (s.addressOf .doffer = some x.addr →
          (t.unit x.addr).slot = some .doffStart ∨ BusMsg.doffStart ∈ (t.unit x.addr).waiting) ∧
        t.dc.delivered = 0 ∧ t.dc.deferExt = 0 ∧ t.dc.deferTaken = false ∧
        t.dc.dofferReady = false ∧ t.dc.next = none ∧
        t.dc.active = (if s.dc.next.isSome then s.dc.next else s.dc.active) ∧
        (∀ p, (t.spindle p).copMm = 0 ∧ (t.spindle p).provisionalMm = 0) ∧
        ∀ p, p < 2048 → s.installed p = true →
          (t.spindle p).state = if (s.spindle p).state = .masked then .masked else .doffPause)

/-- The doffer's DOFF_DONE in DOFFING begins SETTLE: the doff timer stops, the settle count is 0 with the spindles
held paused, the DOFF row asks for CRAWL and a start is requested of the drive (R102, R103, R139). In another doff state
DOFF_DONE is answered ACK and changes nothing (R96, R102).
SETTLE_SWEEPS_REACHED, a command of its own that makes the last advance of the count (the model's choice, log entry 2),
first resumes the paused spindles to UNKNOWN and counts anew, and then begins RAMP, which ends protection (R36, R103,
R104). At step 7 of a close SETTLE counts the counting side's closes with p_min pulses or more (R103). RAMP passes to BUILD,
and the DOFF row's cause ends, where the delivered length stands at the ramp length or above, at the entry to RAMP and at each
close of the counting side (R104, R108); a close of the other side, or one below that length, leaves it. -/
def Obligations.DoffEndsThroughSettle : Prop :=
  (∀ (s : State) (x : Exchange) (cause : Bool), s.answersPoll x .doffer cause → s.channelsAt x.addr = [] →
    s.dc.state = .doffing →
    ∃ t, exec (.doffDone x.addr cause) s = .next t ∧ s.answered t x (some .ack) ∧
      s.changesOnly [.alerts, .cycle, .doff, .drive, .reports, .rows, .units] t ∧
      t.dc = { s.dc with state := .settle, settleCount := 0, settlePaused := some true, doffTimer := none } ∧
      t.dcu.startPending = true ∧ (t.ceilingRow .doff).cause = true ∧ (t.ceilingRow .doff).mode = some .crawl ∧
      (t.ceilingRow .doff).positioning = false) ∧
  (∀ (s : State) (x : Exchange) (cause : Bool), s.answersPoll x .doffer cause → s.channelsAt x.addr = [] →
    s.dc.state ≠ .doffing → ∃ t, exec (.doffDone x.addr cause) s = .next t ∧ s.answered t x (some .ack) ∧
      s.changesOnly [.cycle, .units] t) ∧
  (∀ s : State, s.quiet → s.dc.state = .settle → s.dc.settleCount + 1 = s.thresholds.settleSweeps →
    s.thresholds.settleSweeps ≤ 15 →
    (s.dc.settlePaused = some true →
      ∃ t, exec .settleSweepsReached s = .next t ∧ s.changesOnly [.doff, .spindles] t ∧
        t.dc = { s.dc with settlePaused := some false, settleCount := 0 } ∧
        ∀ p, ((s.spindle p).state ≠ .doffPause → t.spindle p = s.spindle p) ∧
          ((s.spindle p).state = .doffPause → (t.spindle p).state = .unknown ∧ (t.spindle p).belowRun = 0 ∧
            (t.spindle p).aboveRun = 0 ∧ (t.spindle p).afterDoff = true)) ∧
    (∀ a, s.dc.settlePaused = some false → s.dc.active = some a → s.dc.delivered < a.rampM * 1000 →
      ∃ t, exec .settleSweepsReached s = .next t ∧
        s.changesOnly [.alerts, .channels, .doff, .downLoad, .queues, .reports, .rows, .spindles, .units] t ∧
        t.dc.state = .ramp ∧ t.dc.protecting = false ∧ t.pd.protection = false ∧
        (t.ceilingRow .doff).cause = true ∧ (t.ceilingRow .doff).mode = some .trim) ∧
    (∀ a, s.dc.settlePaused = some false → s.dc.active = some a → a.rampM * 1000 ≤ s.dc.delivered →
      s.dc.delivered < s.dc.prewarnPoint →
      ∃ t, exec .settleSweepsReached s = .next t ∧
        s.changesOnly [.alerts, .channels, .doff, .downLoad, .queues, .reports, .rows, .spindles, .units] t ∧
        t.dc.state = .build ∧ t.dc.dofferReady = false ∧ t.dc.protecting = false ∧ t.pd.protection = false ∧
        (t.ceilingRow .doff).cause = false ∧ (t.ceilingRow .doff).mode = none)) ∧
  (∀ (sd : Side) (s : State), s.dc.state = .settle →
    (sd = s.countingSide → s.thresholds.pMin ≤ (s.lengthSide sd).lastP → s.dc.settleCount + 1 < s.thresholds.settleSweeps →
      s.thresholds.settleSweeps ≤ 15 →
      doffAtClose sd s = { s with dc := { s.dc with settleCount := s.dc.settleCount + 1 } }) ∧
    (sd ≠ s.countingSide ∨ (s.lengthSide sd).lastP < s.thresholds.pMin → doffAtClose sd s = s)) ∧
  ∀ (sd : Side) (s : State) (a : Article), s.dc.state = .ramp → s.dc.active = some a →
    (sd = s.countingSide → a.rampM * 1000 ≤ s.dc.delivered → s.dc.delivered < s.dc.prewarnPoint →
      let t := doffAtClose sd s
      s.changesOnly [.alerts, .doff, .reports, .rows] t ∧
        t.dc = { s.dc with state := .build, settlePaused := none, dofferReady := false } ∧
        (t.ceilingRow .doff).cause = false ∧ (t.ceilingRow .doff).mode = none) ∧
    (sd ≠ s.countingSide ∨ s.dc.delivered < a.rampM * 1000 → doffAtClose sd s = s)

/-- DOFF_DEFER in NEAR_FULL or FULL, once a cycle, adds the active article's defer length to the full target and
returns the frame to BUILD; a second one, or one that would not reach past the delivered length, is RANGE, and outside
the two states it is PROTECTED (R105). The lengths are those at which the frame stays in BUILD. RELEASE(DOFF) in
DOFF_FAULT ends the fault's cause, clears origin and reason and returns the frame by its origin: to FULL with its
timers and protection, or on to SETTLE; elsewhere it is PROTECTED (R107). -/
def Obligations.DoffDeferAndReleaseLeaveTheirStates : Prop :=
  (∀ (src tag : Nat) (s : State) (a : Article), s.accepts → s.quiet → s.dc.active = some a →
     (s.dc.state = .nearFull ∨ s.dc.state = .full → s.dc.deferTaken = false → s.dc.deferExt = 0 →
       s.dc.delivered < a.fullCopM * 1000 + a.deferM * 1000 - a.prewarnM * 1000 →
       ∃ t, exec (.doffDefer src tag) s = .next t ∧ s.answers t src tag 0x42 .ok .none ∧
         t.dc.state = .build ∧ t.dc.deferExt = a.deferM * 1000 ∧ t.dc.deferTaken = true ∧ t.dc.dofferReady = false ∧
         t.dc.delivered = s.dc.delivered ∧ (t.ceilingRow .doff).cause = false ∧
         (s.dc.state = .nearFull → s.changesOnly [.alerts, .doff, .replies, .reports, .rows] t) ∧
         (s.dc.state = .full → t.dc.stopTimer = none ∧ t.dc.clearTimer = none ∧ t.dc.protecting = false ∧
           t.pd.protection = false ∧
           s.changesOnly [.alerts, .channels, .doff, .downLoad, .queues, .replies, .reports, .rows, .spindles,
             .units] t)) ∧
     (s.dc.state = .nearFull ∨ s.dc.state = .full →
       s.dc.deferTaken = true ∨ s.dc.fullTarget + a.deferM * 1000 ≤ s.dc.delivered →
       ∃ t, exec (.doffDefer src tag) s = .next t ∧ s.answers t src tag 0x42 .range .none ∧ s.changesOnly [.replies] t) ∧
     (s.dc.state ≠ .nearFull → s.dc.state ≠ .full →
       ∃ t, exec (.doffDefer src tag) s = .next t ∧ s.answers t src tag 0x42 .protected_ .none ∧
         s.changesOnly [.replies] t)) ∧
  (∀ (src tag : Nat) (s : State), s.accepts → s.quiet →
     (s.dc.state = .doffFault → s.dc.dofferReady = false →
       (∀ c ∈ channelNumbers, (s.channel c).state = .idle → (s.channel c).holdPending = false) →
       (s.dc.origin = some .full → ∃ t, exec (.releaseDoff src tag) s = .next t ∧ s.answers t src tag 0x49 .ok .none ∧
         s.changesOnly [.alerts, .channels, .doff, .replies, .reports, .rows, .units] t ∧
         t.dc = { s.dc with
           state := .full, settlePaused := none, origin := none, faultReason := none, protecting := true
           stopTimer := some (s.thresholds.stopLimit * 1000), clearTimer := some 30000 } ∧
         t.pd.protection = true ∧ (t.ceilingRow .doffFault).cause = false) ∧
       (s.dc.origin = some .doffing → ∃ t, exec (.releaseDoff src tag) s = .next t ∧
         s.answers t src tag 0x49 .ok .none ∧ s.changesOnly [.alerts, .doff, .drive, .replies, .reports, .rows] t ∧
         t.dc = { s.dc with
           state := .settle, settlePaused := some true, settleCount := 0, origin := none, faultReason := none } ∧
         t.dcu.startPending = true ∧ (t.ceilingRow .doffFault).cause = false)) ∧
     (s.dc.state ≠ .doffFault → ∃ t, exec (.releaseDoff src tag) s = .next t ∧
       s.answers t src tag 0x49 .protected_ .none ∧ s.changesOnly [.replies] t))

/-- The cop record places each installed spindle of a side in the first of its four classes that applies, by
cross-multiplication against the full target, and totals the cops that are not MASKED (R100). -/
def Obligations.CopRecordClassesEverySpindle : Prop :=
  ∀ (s : State) (sd : Side),
    let x := s.copSide sd
    let ps := s.positions sd
    let number (f : Spindle → Bool) : Nat := (ps.filter fun p => f (s.spindle p)).length
    let empty (r : Spindle) : Bool := r.state == .masked || decide (r.copMm < 1000)
    let full (r : Spindle) : Bool := decide (s.dc.fullTarget * 243 ≤ r.copMm * 256)
    let short (r : Spindle) : Bool :=
      decide (r.copMm * 256 < s.dc.fullTarget * (match s.dc.active with | some a => a.shortCopQ8 | none => 0))
    x.configured = ((s.railOf sd).installed != 0) ∧ x.installed = (s.railOf sd).installed ∧
    x.empty = number empty ∧ x.full = number (fun r => !empty r && full r) ∧
    x.short = number (fun r => !empty r && !full r && short r) ∧
    x.middle = number (fun r => !empty r && !full r && !short r) ∧
    x.empty + x.full + x.short + x.middle = x.installed ∧
    x.totalMm = (ps.map fun p => if (s.spindle p).state = .masked then 0 else (s.spindle p).copMm).sum

/-! ### Creel Controller -/

/-- What the transport controller's ACK, EXCH_START and REJECT do to the section they name, and which are discarded
with the discarded-answer counter advanced and nothing else changed (R120, R121, R123). EXCH_DONE loads every bobbin
of an enabled row's bounds with the active article's bobbin length, returns their ROVING_OUT spindles to DOWN with
attempts 0 and the section to SUPPLIED, out of the queue, whatever its state (R37, R111, R122); of a disabled row it loads
the installed bobbins of the row's side and leaves the section; other bobbins stay. A REJECT leaves the resend count as it
stands, which the next send clears (log entry 29). An EXCH_DONE is taken with every replaced count, counts above 96 too (the
model's choice, log entry 61). -/
def Obligations.TransportAnswersMoveSection : Prop :=
  (∀ (src row : Nat) (s : State),
     let x := s.creelSection row
     let known : Prop := s.thresholds.transportStation ≠ 0 ∧ src = s.thresholds.transportStation ∧ row < 64
     let limit := some (s.thresholds.transportLimit * 1000)
     let discarded (i : Instr) : Prop := ∃ t, exec i s = .next t ∧ s.changesOnly [.creel] t ∧
       t.cc.discardedAnswers = min 65535 (s.cc.discardedAnswers + 1) ∧ t.cc.sections = s.cc.sections ∧
       t.cc.queue = s.cc.queue ∧ t.cc.stalled = s.cc.stalled ∧ t.cc.waiting = s.cc.waiting ∧
       t.cc.inFlight = s.cc.inFlight
     (known → x.state = .requested →
       ∃ t, exec (.transportAck src row) s = .next t ∧ s.changesOnly [.creel] t ∧
         t.creelSection row = { x with transportTimer := limit } ∧
         (∀ r, r ≠ row → t.creelSection r = s.creelSection r) ∧ t.cc.queue = s.cc.queue ∧
         t.cc.discardedAnswers = s.cc.discardedAnswers) ∧
     (¬ known ∨ x.state ≠ .requested → discarded (.transportAck src row)) ∧
     (known → x.config.enabled = true → x.state = .requested ∨ x.state = .low ∨ x.state = .stalled →
       ∃ t, exec (.exchStart src row) s = .next t ∧ s.changesOnly [.alerts, .creel, .reports, .transport] t ∧
         t.creelSection row = { x with
           state := .exchanging, backoffTimer := none, resendCount := 0, stallNumber := none, transportTimer := limit } ∧
         (∀ e ∈ t.cc.queue, e.row ≠ row) ∧ row ∉ t.cc.stalled) ∧
     (known → x.config.enabled = true → x.state = .exchanging →
       ∃ t, exec (.exchStart src row) s = .next t ∧ s.changesOnly [.creel] t ∧
         t.creelSection row = { x with transportTimer := limit } ∧ t.cc.queue = s.cc.queue) ∧
     (¬ known ∨ x.config.enabled = false ∨ x.state = .supplied → discarded (.exchStart src row)) ∧
     (∀ reason, known → x.state = .requested →
       ∃ t, exec (.reject src row reason) s = .next t ∧ s.changesOnly [.alerts, .creel, .reports, .transport] t ∧
         t.creelSection row = { x with
           state := .low, transportTimer := none, rejectReason := some reason, backoffTimer := some 120000 } ∧
         t.cc.queue = s.cc.queue) ∧
     (∀ reason, ¬ known ∨ x.state ≠ .requested → discarded (.reject src row reason)) ∧
     ∀ replaced, ¬ known → discarded (.exchDone src row replaced)) ∧
  (∀ (src row replaced : Nat) (s : State) (a : Article), s.thresholds.transportStation ≠ 0 →
     src = s.thresholds.transportStation → row < 64 → s.dc.active = some a →
     (s.creelSection row).config.enabled = false →
     ∃ t, exec (.exchDone src row replaced) s = .next t ∧ s.changesOnly [.bobbins, .creel, .spindles] t ∧
       let c := (s.creelSection row).config
       t.cc.sections = s.cc.sections ∧ t.cc.queue = s.cc.queue ∧ t.cc.stalled = s.cc.stalled ∧
       ∀ p, t.bobbin p =
         if c.first ≤ p ∧ p ≤ c.last ∧ s.installed p = true ∧ sideOf p = c.side then
           ⟨.loaded, a.bobbinM * 1000, 0, false⟩
         else s.bobbin p) ∧
  (∀ (src row replaced : Nat) (s : State) (a : Article), s.thresholds.transportStation ≠ 0 →
     src = s.thresholds.transportStation → row < 64 → s.dc.active = some a →
     (s.creelSection row).config.enabled = true → (s.creelSection row).config.last < 2048 →
     ∃ t, exec (.exchDone src row replaced) s = .next t ∧
       s.changesOnly [.alerts, .bobbins, .creel, .reports, .spindles, .transport] t ∧
       let c := (s.creelSection row).config
       (∀ p, c.first ≤ p → p ≤ c.last → t.bobbin p = ⟨.loaded, a.bobbinM * 1000, 0, false⟩ ∧ p ∉ t.cc.waiting) ∧
       (∀ p, p < c.first ∨ c.last < p → t.bobbin p = s.bobbin p ∧ t.spindle p = s.spindle p) ∧
       (∀ p, c.first ≤ p → p ≤ c.last → s.installed p = true → (s.spindle p).state = .rovingOut →
         (t.spindle p).state = .down ∧ (t.spindle p).attempts = 0 ∧
           (t.spindle p).downSince = (s.spindle p).downSince) ∧
       (∀ p, (s.spindle p).state ≠ .rovingOut → t.spindle p = s.spindle p) ∧
       t.creelSection row = { s.creelSection row with
         state := .supplied, transportTimer := none, backoffTimer := none, resendCount := 0, rejectReason := none
         stallNumber := none } ∧
       (∀ e ∈ t.cc.queue, e.row ≠ row) ∧ row ∉ t.cc.stalled)

/-- TRANSPORT_TIMER_EXPIRY sends a REQUESTED section's request again, three times, and then, or from EXCHANGING at
once, takes it to STALLED with the next stall number and the SECTION_STALLED alert (R124). BACKOFF_TIMER_EXPIRY makes
a LOW section eligible: it waits on without a transport station and is sent where its turn has come (R120, R123).
CHANGE_TIMER_EXPIRY fails the single change in flight, whether its position is installed still or not (R127, log entry 39).
-/
def Obligations.CreelTimersResendStallAndFail : Prop :=
  (∀ (row : Nat) (s : State), row < 64 → (s.creelSection row).transportTimer.isSome = true →
    ((s.creelSection row).state = .requested → (s.creelSection row).resendCount < 3 →
      s.thresholds.transportStation ≠ 0 → s.mli.transport.length < 8 →
      ∃ t, exec (.transportTimerExpiry row) s = .next t ∧ s.changesOnly [.creel, .transport] t ∧
        t.creelSection row = { s.creelSection row with
          resendCount := (s.creelSection row).resendCount + 1
          transportTimer := some (s.thresholds.transportLimit * 1000) } ∧
        t.cc.queue = s.cc.queue ∧
        ∃ f, t.mli.transport = s.mli.transport ++ [f] ∧ f.dest = s.thresholds.transportStation ∧ f.row = row ∧
          f.station = s.mli.station.toNat ∧ f.side = (s.creelSection row).config.side ∧
          f.bobbins = (s.creelSection row).config.last + 1 - (s.creelSection row).config.first) ∧
    ((s.creelSection row).state = .requested ∧ 3 ≤ (s.creelSection row).resendCount ∨
        (s.creelSection row).state = .exchanging →
      ∃ t, exec (.transportTimerExpiry row) s = .next t ∧
        s.changesOnly [.alerts, .creel, .reports, .transport] t ∧
        t.creelSection row = { s.creelSection row with
          state := .stalled, transportTimer := none, backoffTimer := none, stallNumber := some (s.cc.lastStall + 1) } ∧
        (∀ e ∈ t.cc.queue, e.row ≠ row) ∧ row ∈ t.cc.stalled ∧ t.cc.lastStall = s.cc.lastStall + 1 ∧
        s.occurs t .sectionStalled (some row))) ∧
  (∀ (row : Nat) (s : State), row < 64 → (s.creelSection row).backoffTimer.isSome = true →
    (s.creelSection row).state = .low →
    (s.thresholds.transportStation = 0 →
      ∃ t, exec (.backoffTimerExpiry row) s = .next t ∧ s.changesOnly [.creel] t ∧
        t.creelSection row = { s.creelSection row with backoffTimer := none }) ∧
    (s.thresholds.transportStation ≠ 0 → s.requestedCount = 1 → s.mli.transport.length < 8 →
      (s.cc.transportQueue.head?.map (·.row)) = some row →
      ∃ t, exec (.backoffTimerExpiry row) s = .next t ∧ s.changesOnly [.alerts, .creel, .reports, .transport] t ∧
        t.creelSection row = { s.creelSection row with
          state := .requested, backoffTimer := none, resendCount := 0
          transportTimer := some (s.thresholds.transportLimit * 1000) } ∧
        t.mli.transport.length = s.mli.transport.length + 1)) ∧
  (∀ (s : State) (p : Nat), s.cc.changeTimer.isSome = true → s.cc.inFlight = some p → s.cc.waiting = [] → p < 2048 →
    s.mli.reports.length < 96 →
    ∃ t, exec .changeTimerExpiry s = .next t ∧ s.changesOnly [.bobbins, .creel, .reports, .units] t ∧
      t.cc.inFlight = none ∧ t.cc.changeTimer = none ∧ t.bobbin p = { s.bobbin p with noSingle := true } ∧
      (∀ q, q ≠ p → t.bobbin q = s.bobbin q) ∧ s.posts t [.singleChange p false])

/-- The creel changer's DONE loads the installed bobbin it names and frees its ROVING_OUT spindle; a DONE for a spindle not
in flight is reported with SINGLE_CHANGE too (log entry 39). Its FAILED for the spindle in flight sets no_single and is
reported. A DONE for a position not installed, and a FAILED for a position not installed or not in flight, are only counted
as discarded (R111, R127). -/
def Obligations.CreelChangerLoadsOrFails : Prop :=
  ∀ (s : State) (x : Exchange) (cause : Bool) (p : Nat), s.answersPoll x .creelChanger cause →
    s.channelsAt x.addr = [] → s.cc.waiting = [] → s.mli.reports.length < 96 →
    (∀ a, s.installed p = true → s.dc.active = some a →
      ∃ t, exec (.creelChangerDone x.addr cause p) s = .next t ∧ s.answered t x (some .ack) ∧
        s.changesOnly [.bobbins, .creel, .cycle, .reports, .spindles, .units] t ∧
        t.bobbin p = ⟨.loaded, a.bobbinM * 1000, 0, false⟩ ∧ (∀ q, q ≠ p → t.bobbin q = s.bobbin q) ∧
        t.cc.loads = min 4294967295 (s.cc.loads + 1) ∧
        ((s.spindle p).state = .rovingOut → (t.spindle p).state = .down ∧ (t.spindle p).attempts = 0) ∧
        ((s.spindle p).state ≠ .rovingOut → t.spindle p = s.spindle p) ∧ (∀ q, q ≠ p → t.spindle q = s.spindle q) ∧
        t.cc.inFlight = (if s.cc.inFlight = some p then none else s.cc.inFlight) ∧
        s.posts t [.singleChange p true]) ∧
    (s.installed p = true → s.cc.inFlight = some p →
      ∃ t, exec (.creelChangerFailed x.addr cause p) s = .next t ∧ s.answered t x (some .ack) ∧
        s.changesOnly [.bobbins, .creel, .cycle, .reports, .units] t ∧ t.cc.inFlight = none ∧
        t.cc.changeTimer = none ∧ t.bobbin p = { s.bobbin p with noSingle := true } ∧
        (∀ q, q ≠ p → t.bobbin q = s.bobbin q) ∧ s.posts t [.singleChange p false]) ∧
    (let discarded (i : Instr) : Prop := ∃ t, exec i s = .next t ∧ s.answered t x (some .ack) ∧
      s.changesOnly [.creel, .cycle, .units] t ∧
      t.cc.discardedAnswers = min 65535 (s.cc.discardedAnswers + 1) ∧ t.cc.loads = s.cc.loads ∧
      t.cc.inFlight = s.cc.inFlight ∧ t.cc.changeTimer = s.cc.changeTimer
    (s.installed p = false → discarded (.creelChangerDone x.addr cause p)) ∧
    (s.installed p = false ∨ s.cc.inFlight ≠ some p → discarded (.creelChangerFailed x.addr cause p)))

/-- The evaluation of a SUPPLIED section counts the bobbins of its bounds that are EMPTY_EST, OUT, or LOADED with no
more than the reserve, and takes it to LOW and into the queue at the trigger count (R118, R119), with a report that
carries the urgent flag and the resend count as the entry leaves them (R125; that it does so is the model's choice,
log entry 82). A rising edge of CREEL_DONE returns the STALLED section with the oldest stall number to LOW, and
RELEASE naming a STALLED section returns that one, answered OK: it is appended to the queue with the next entry
number, urgent where one of its installed spindles is in ROVING_OUT (R119, R125). Another RELEASE is PROTECTED or
RANGE, another CREEL_DONE change only the line's. Without a transport station the section waits in LOW. -/
def Obligations.StalledSectionReturnsToLow : Prop :=
  (∀ (row : Nat) (s : State), row < 64 → (s.creelSection row).state = .supplied →
    let c := (s.creelSection row).config
    let counted := ((List.range (c.last + 1 - c.first)).map (c.first + ·)).filter fun p =>
      (s.bobbin p).state == .emptyEst || (s.bobbin p).state == .out ||
        ((s.bobbin p).state == .loaded && decide ((s.bobbin p).remaining ≤ c.reserveM * 1000))
    let t := evaluateSection row s
    (counted.length < c.triggerCount → s.changesOnly [.creel] t ∧
      t.cc = { s.cc with sections := t.cc.sections } ∧
      t.creelSection row = { s.creelSection row with lowCount := counted.length } ∧
      ∀ r, r ≠ row → t.creelSection r = s.creelSection r) ∧
    (c.triggerCount ≤ counted.length → s.mli.reports.length < 96 → s.changesOnly [.creel, .reports] t ∧
      t.creelSection row = { s.creelSection row with
        state := .low, lowCount := counted.length, resendCount := 0, stallNumber := none } ∧
      (∀ r, r ≠ row → t.creelSection r = s.creelSection r) ∧ t.cc.lastEntry = s.cc.lastEntry + 1 ∧
      ∃ u, t.cc.queue = s.cc.queue.filter (fun e => e.row != row) ++ [⟨row, u, s.cc.lastEntry + 1⟩] ∧
        (u = true ↔ ∃ p, c.first ≤ p ∧ p ≤ c.last ∧ s.installed p = true ∧ (s.spindle p).state = .rovingOut) ∧
        s.posts t [.sectionState row c.side .supplied .low counted.length (some u) 0 none none])) ∧
  ∀ (src tag row : Nat) (s : State),
    let returned (t : State) : Prop :=
      t.creelSection row = { s.creelSection row with state := .low, resendCount := 0, stallNumber := none } ∧
      row ∉ t.cc.stalled ∧ t.cc.lastEntry = s.cc.lastEntry + 1 ∧
      ∃ u, t.cc.queue = s.cc.queue.filter (fun e => e.row != row) ++ [⟨row, u, s.cc.lastEntry + 1⟩] ∧
        (u = true ↔ ∃ p, (s.creelSection row).config.first ≤ p ∧ p ≤ (s.creelSection row).config.last ∧
          s.installed p = true ∧ (s.spindle p).state = .rovingOut)
    (row < 64 → (s.creelSection row).state = .stalled → s.thresholds.transportStation = 0 →
      (s.accepts → ∃ t, exec (.releaseSection src tag row) s = .next t ∧ s.answers t src tag 0x49 .ok .none ∧
        returned t ∧ s.changesOnly [.alerts, .creel, .replies, .reports] t) ∧
      (s.dcu.lines.creelDone = false → s.cc.stalled.head? = some row →
        ∃ t, exec (.creelDone true) s = .next t ∧ returned t ∧ t.dcu.lines.creelDone = true ∧
          s.changesOnly [.alerts, .creel, .panel, .reports] t)) ∧
    (s.accepts → row < 64 → (s.creelSection row).state ≠ .stalled →
      ∃ t, exec (.releaseSection src tag row) s = .next t ∧ s.answers t src tag 0x49 .protected_ .none ∧
        s.changesOnly [.replies] t) ∧
    (s.accepts → 63 < row → ∃ t, exec (.releaseSection src tag row) s = .next t ∧
      s.answers t src tag 0x49 .range .none ∧ s.changesOnly [.replies] t) ∧
    ∀ v, v = false ∨ s.dcu.lines.creelDone = true ∨ s.cc.stalled = [] →
      ∃ t, exec (.creelDone v) s = .next t ∧ t.dcu.lines.creelDone = v ∧ s.changesOnly [.panel] t

/-! ### Drive Ceiling Unit -/

/-- A change of the PANEL_STOP line hands the cause of its row, with an alert occurrence where it is set, and brings
the ceiling to STOP or below where the row is enabled (R132, R134, R135). LAMP_TEST asserts the three lamps while it
is set (R143). A debounced level that does not change is no event, and the row does nothing (R144; the model's choice, log
entry 3); one that changes is also the line's raw level (log entry 40). -/
def Obligations.PanelStopAndLampTestAct : Prop :=
  ∀ (v : Bool) (s : State),
    (s.dcu.lines.panelStop ≠ v →
      ∃ t, exec (.panelStop v) s = .next t ∧ s.changesOnly [.alerts, .panel, .reports, .rows] t ∧
        t.dcu.lines.panelStop = v ∧ t.dcu.inputs = { s.dcu.inputs with panelStop := ⟨v, 0⟩ } ∧
        (t.ceilingRow .panelStop).cause = v ∧
        (v = true → s.occurs t .panelStop none) ∧ t.ceilingAgrees ∧
        (v = true → (s.ceilingRow .panelStop).cause = false → (s.ceilingRow .panelStop).enable = true →
          (s.ceilingRow .panelStop).mode = some .stop → s.dcu.reevaluate = false →
          (t.ceilingRow .panelStop).active = true ∧ modeRank t.dcu.ceiling ≤ 1) ∧
        ∀ n, n ≠ .panelStop → t.ceilingRow n = s.ceilingRow n) ∧
    (s.dcu.lines.panelStop = v → ∃ t, exec (.panelStop v) s = .next t ∧ s.changesOnly [] t) ∧
    ∃ t, exec (.lampTest v) s = .next t ∧ s.changesOnly [.panel] t ∧ t.dcu.lines.lampTest = v ∧
      t.dcu.lines.endLamp = (v || s.endLampFact) ∧ t.dcu.lines.rovingLamp = (v || s.rovingLampFact) ∧
      t.dcu.lines.faultLamp = (v || s.faultLampFact) ∧ t.dcu.lines.runPermit = s.runPermitFact

/-- CEILING_OVERRIDE with a mode makes the OVERRIDE row's cause present with that mode, without restarting a dwell,
and with NONE ends it, answered OK; another value is RANGE (R137). RELEASE naming a latched row unlatches it and drops
it where its cause is gone and its dwell is served, answered OK; a row not latched is PROTECTED, another name RANGE
(R133). Between a warm restart and the first close after it, for which R146 keeps active and latched, a release acts as ever:
that is the model's reading (log entry 12). The ceiling follows at once (R134). DWELL_DROP: the dwell advance that brings an active, unlatched row without
its cause to dwell_min, a command of its own here (the model's choice, log entry 2), makes it inactive, reports it and
recomputes the ceiling (R132, R134), except between a warm restart and the first close after it (R146). -/
def Obligations.CeilingRowsFollowCommandsAndDwell : Prop :=
  (∀ (src tag n : Nat) (s : State), s.accepts →
     (∀ m, modeOfCode n = some m →
       ∃ t, exec (.ceilingOverride src tag (some n)) s = .next t ∧ s.answers t src tag 0x48 .ok .none ∧
         s.changesOnly [.alerts, .replies, .reports, .rows] t ∧ t.ceilingAgrees ∧
         (t.ceilingRow .overrideRow).cause = true ∧ (t.ceilingRow .overrideRow).mode = some m ∧
         ((s.ceilingRow .overrideRow).active = true →
           (t.ceilingRow .overrideRow).active = true ∧
           (t.ceilingRow .overrideRow).dwellCount = (s.ceilingRow .overrideRow).dwellCount) ∧
         ((s.ceilingRow .overrideRow).active = false → (s.ceilingRow .overrideRow).cause = false →
           s.dcu.reevaluate = false →
           (t.ceilingRow .overrideRow).active = (s.ceilingRow .overrideRow).enable) ∧
         ∀ r, r ≠ .overrideRow → t.ceilingRow r = s.ceilingRow r) ∧
     (∃ t, exec (.ceilingOverride src tag none) s = .next t ∧ s.answers t src tag 0x48 .ok .none ∧
       s.changesOnly [.alerts, .replies, .reports, .rows] t ∧ t.ceilingAgrees ∧
       (t.ceilingRow .overrideRow).cause = false ∧ ∀ r, r ≠ .overrideRow → t.ceilingRow r = s.ceilingRow r) ∧
     (∀ straps, ∃ t, exec (.powerOn straps) s = .next t ∧ (t.ceilingRow .overrideRow).enable = false) ∧
     (4 < n → ∃ t, exec (.ceilingOverride src tag (some n)) s = .next t ∧ s.answers t src tag 0x48 .range .none ∧
       s.changesOnly [.replies] t) ∧
     (∀ r, rowOfCode n = some r → (s.ceilingRow r).latched = true →
       ∃ t, exec (.releaseCeilingRow src tag n) s = .next t ∧ s.answers t src tag 0x49 .ok .none ∧
         s.changesOnly [.alerts, .replies, .reports, .rows] t ∧ t.ceilingAgrees ∧
         t.ceilingRow r = { s.ceilingRow r with
           latched := false
           active := (s.ceilingRow r).active &&
             ((s.ceilingRow r).cause || decide ((s.ceilingRow r).dwellCount < (s.ceilingRow r).dwellMin)) } ∧
         ∀ q, q ≠ r → t.ceilingRow q = s.ceilingRow q) ∧
     (∀ r, rowOfCode n = some r → (s.ceilingRow r).latched = false →
       ∃ t, exec (.releaseCeilingRow src tag n) s = .next t ∧ s.answers t src tag 0x49 .protected_ .none ∧
         s.changesOnly [.replies] t) ∧
     (7 < n → ∃ t, exec (.releaseCeilingRow src tag n) s = .next t ∧ s.answers t src tag 0x49 .range .none ∧
       s.changesOnly [.replies] t)) ∧
  (∀ (n : RowName) (s : State), s.dcu.reevaluate = true →
     ∃ t, exec (.dwellDrop n) s = .next t ∧ s.changesOnly [] t) ∧
  (∀ (n : RowName) (s : State), s.dcu.reevaluate = false → (s.ceilingRow n).active = true →
     (s.ceilingRow n).latched = false → (s.ceilingRow n).cause = false → (s.ceilingRow n).dwellMin = (s.ceilingRow n).dwellCount + 1 →
     (s.ceilingRow n).dwellMin ≤ 255 → s.mli.reports.length < 96 →
     ∃ t, exec (.dwellDrop n) s = .next t ∧ s.changesOnly [.alerts, .reports, .rows] t ∧
       t.ceilingRow n = { s.ceilingRow n with active := false, dwellCount := (s.ceilingRow n).dwellMin } ∧
       (∀ q, q ≠ n → t.ceilingRow q = s.ceilingRow q) ∧ t.ceilingAgrees ∧
       ∃ rest, t.mli.reports = s.mli.reports ++ ⟨false, s.mli.eventGap,
         .ceilingRow n false false (s.railOf s.countingSide).sweepIndex⟩ :: rest)

/-- ACTUAL becomes the drive's last report and confirms it, ends a start that its poll carried, tells the Doff
Controller whether the drive stands at the doff position, and counts a mode above the ceiling carried; the third in a
row, which DISOBEY_LIMIT also stands for as a command of its own (the model's choice, log entry 2), raises DRIVE_DISOBEY
(R96, R138 to R140). What the part answers to an ACTUAL no rule says: the answer is a free value (log entry 21).
GRACE_TIMER_EXPIRY drops the run permit with the DRIVE_OFFLINE alert and a report (R141, R142). -/
def Obligations.DriveReportsAndLimits : Prop :=
  (∀ (s : State) (x : Exchange) (cause : Bool) (c : CeilingPart) (m : CeilingMode) (st ad f : Bool),
    s.answersPoll x .drive cause → s.channelsAt x.addr = [] → x.ceiling = some c → s.addressOf .drive = some x.addr →
    s.dc.state ≠ .full →
    ∃ t, exec (.actual x.addr cause m st ad f) s = .next t ∧
      s.answered t x (Config.answerToUnlisted .drive 0x48) ∧
      s.changesOnly [.alerts, .cycle, .doff, .drive, .reports, .units] t ∧
      t.dcu.lastActual = some ⟨m, st, ad, f⟩ ∧ t.dcu.confirmed = true ∧
      t.dcu.startPending = (s.dcu.startPending && !c.start) ∧
      t.dcu.disobey = (if modeRank c.mode < modeRank m then min 3 (s.dcu.disobey + 1) else 0) ∧
      (modeRank c.mode < modeRank m → s.dcu.disobey = 2 → s.occurs t .driveDisobey none) ∧
      t.dc = { s.dc with driveAtDoff := st && ad && !f }) ∧
  (∀ (s : State) (x : Exchange) (c : CeilingPart) (m : CeilingMode), s.sbm.current = some x → x.ceiling = some c →
    s.dcu.disobey = 2 → modeRank c.mode < modeRank m → s.mli.reports.length < 96 →
    ∃ t, exec (.disobeyLimit m) s = .next t ∧ s.changesOnly [.alerts, .drive, .reports] t ∧ t.dcu.disobey = 3 ∧
      s.occurs t .driveDisobey none ∧ s.posts t [.driveEvent (.disobey m c.mode)]) ∧
  (∀ s : State, s.dcu.graceTimer.isSome = true → s.mli.reports.length < 96 →
    ∃ t, exec .graceTimerExpiry s = .next t ∧ s.changesOnly [.alerts, .drive, .reports] t ∧
      t.dcu.graceTimer = none ∧ t.dcu.graceExpired = true ∧ t.dcu.lines.runPermit = false ∧
      s.occurs t .driveOffline none ∧ s.posts t [.driveEvent .offline])

/-! ### Shift Accounting Unit -/

/-- SHIFT_CLOSE is BUSY while either side's close is pending; otherwise it is answered OK, a configured side becomes
pending, an IDLE side is closed at once with its current sweep index, and with both sides IDLE the shift number
advances (R154, R155). -/
def Obligations.ShiftCloseMarksOrClosesSides : Prop :=
  ∀ (src tag : Nat) (s : State), s.accepts →
    ((s.shiftSide .a).pending = true ∨ (s.shiftSide .b).pending = true →
      ∃ t, exec (.shiftClose src tag) s = .next t ∧ s.answers t src tag 0x40 .busy .none ∧
        s.changesOnly [.replies] t) ∧
    ((s.shiftSide .a).pending = false → (s.shiftSide .b).pending = false →
      ∃ t, exec (.shiftClose src tag) s = .next t ∧ s.answers t src tag 0x40 .ok .none ∧
        s.changesOnly [.alerts, .replies, .reports, .shift, .spindles] t ∧
        (∀ sd, (s.railOf sd).installed ≠ 0 → t.shiftSide sd = { s.shiftSide sd with pending := true }) ∧
        (∀ sd, (s.railOf sd).installed = 0 →
          t.shiftSide sd = { s.shiftSide sd with
            current := {}
            opening := (s.railOf sd).sweepIndex
            closed := { counts := (s.shiftSide sd).current, shiftNumber := s.sau.shiftNumber
                        opening := (s.shiftSide sd).opening, closing := (s.railOf sd).sweepIndex
                        article := match s.dc.active with | some a => a.number | none => 0 } } ∧
          ∀ p, p < 2048 → sideOf p = sd → t.spindle p = { s.spindle p with
            endsDown := 0, downSweeps := 0, slipSweeps := 0, sensorFaults := 0 }) ∧
        (∀ p sd, sideOf p = sd → (s.railOf sd).installed ≠ 0 → t.spindle p = s.spindle p) ∧
        t.sau.shiftNumber = (if (s.railOf .a).installed = 0 ∧ (s.railOf .b).installed = 0 then s.sau.shiftNumber + 1
          else s.sau.shiftNumber))

/-- RATE_BLOCK_END, a command of its own that advances the block's count and adds no spindle-sweep (the model's choice, log
entry 2): the close that brings block_count to block_sweeps ends the block; where a spindle-sweep of it was
evaluable its rate becomes the side's latest, which a rate of trim_on or more turns into the BREAK_RATE cause; a present
cause ends when every configured side holds two rates at or below trim_off, or none; a block without an evaluable
spindle-sweep hands nothing (R136, R153). -/
def Obligations.RateBlockEndHandsRate : Prop :=
  ∀ (sd : Side) (s : State),
    let b := (s.shiftSide sd).block
    (s.railOf sd).installed ≠ 0 → b.count + 1 = s.thresholds.blockSweeps → s.thresholds.blockSweeps ≤ 3600 →
    b.ends ≤ 4294967295 → b.evaluable ≤ 4294967295 → b.evaluableMs < 2 ^ 64 →
    s.thresholds.trimOff < s.thresholds.trimOn →
    ∃ t, exec (.rateBlockEnd sd) s = .next t ∧ s.changesOnly [.alerts, .rates, .reports, .rows, .shift] t ∧
      t.shiftSide sd = { s.shiftSide sd with block := {} } ∧ t.shiftSide sd.other = s.shiftSide sd.other ∧
      (b.evaluable = 0 → s.changesOnly [.shift] t) ∧
      (b.evaluable ≠ 0 →
        let rate := min 4294967295 (b.ends * 3600000000 / b.evaluableMs)
        t.dcu.rates.get sd = ⟨some rate, (s.dcu.rates.get sd).latest⟩ ∧
        t.dcu.rates.get sd.other = s.dcu.rates.get sd.other ∧
        (s.thresholds.trimOn ≤ rate → (t.ceilingRow .breakRate).cause = true) ∧
        ((s.ceilingRow .breakRate).cause = true → ((t.ceilingRow .breakRate).cause = false ↔
          ∀ e, (s.railOf e).installed ≠ 0 → match t.dcu.rates.get e with
            | ⟨some x, some y⟩ => x ≤ s.thresholds.trimOff ∧ y ≤ s.thresholds.trimOff
            | ⟨none, none⟩ => True
            | _ => False)))

/-- Step 6 of a close. The totals of the Length Unit, the mass and the evaluable and running spindle-sweeps are added to the
side's current record (R147), the two counters of each spindle advance (R148), and the rate block advances and hands its
rate where it ends (R153). A side whose shift close is pending is closed by it: the record becomes the closed one and is
posted, the current record and the spindles' four shift counters return to 0 (R155). The figures of a record: efficiency in
tenths of a percent, "no data" without an evaluable sweep and otherwise from 0 to 1,000 (R150); spun mass in grams (R151);
ends down per 1,000 spindle-hours, "no data" without evaluable time (R152). -/
def Obligations.ShiftCountsClosesAndDerivesFigures : Prop :=
  (∀ (sd : Side) (x : CloseTotals) (ev : Nat → Bool) (ends : Nat) (s : State),
    let counted := (s.positions sd).filter fun p => ev p && (s.spindle p).state != .masked &&
      (s.spindle p).state != .doffPause && (s.spindle p).state != .unknown
    let n := counted.length
    let running := (counted.filter fun p => (s.spindle p).state == .running || (s.spindle p).state == .slipping ||
      (s.spindle p).state == .verify).length
    let r := (s.shiftSide sd).current
    let record : ShiftRecord := { r with
      deliveredMm := min 281474976710655 (r.deliveredMm + x.d)
      spunMm := min 281474976710655 (r.spunMm + x.credit)
      wasteMm := min 281474976710655 (r.wasteMm + x.waste)
      massAcc := min 18446744073709551615
        (r.massAcc + x.credit * (match s.dc.active with | some a => a.texX100 | none => 0))
      evaluable := min 281474976710655 (r.evaluable + n)
      evaluableMs := min 18446744073709551615 (r.evaluableMs + n * s.thresholds.sweepMs)
      running := min 281474976710655 (r.running + running) }
    let b := (s.shiftSide sd).block
    let grown : RateBlock := ⟨min 3600 (b.count + 1), min 4294967295 (b.ends + ends),
      min 4294967295 (b.evaluable + n), min 18446744073709551615 (b.evaluableMs + n * s.thresholds.sweepMs)⟩
    let block : RateBlock := if s.thresholds.blockSweeps ≤ grown.count then {} else grown
    let t := (shiftAtClose sd x ev ends s).1
    (shiftAtClose sd x ev ends s).2 =
      (if s.thresholds.blockSweeps ≤ grown.count ∧ grown.evaluable ≠ 0
        then some (grown.ends * 3600000000 / grown.evaluableMs) else none) ∧
    t.shiftSide sd.other = s.shiftSide sd.other ∧
    ((s.shiftSide sd).pending = false → s.changesOnly [.shift, .spindles] t ∧
      t.sau.shiftNumber = s.sau.shiftNumber ∧
      t.shiftSide sd = { s.shiftSide sd with current := record, block := block } ∧
      ∀ p, p < 2048 → t.spindle p =
        if sideOf p = sd ∧ p < sd.base + (s.railOf sd).installed then { s.spindle p with
          downSweeps :=
            if (s.spindle p).state = .down ∨ (s.spindle p).state = .piecing ∨ (s.spindle p).state = .red ∨
                (s.spindle p).state = .rovingOut then min 65535 ((s.spindle p).downSweeps + 1)
            else (s.spindle p).downSweeps
          slipSweeps :=
            if ev p = true ∧ (s.spindle p).state = .slipping then min 65535 ((s.spindle p).slipSweeps + 1)
            else (s.spindle p).slipSweeps }
        else s.spindle p) ∧
    ((s.shiftSide sd).pending = true → s.changesOnly [.alerts, .reports, .shift, .spindles] t ∧
      let closed : ClosedRecord :=
        { counts := record, shiftNumber := s.sau.shiftNumber, opening := (s.shiftSide sd).opening
          closing := (s.railOf sd).sweepIndex
          article := match s.dc.active with | some a => a.number | none => 0 }
      t.shiftSide sd = { current := {}, closed := closed, opening := (s.railOf sd).sweepIndex, pending := false
                         block := block } ∧
      (∃ l g, t.mli.reports = l ++ [⟨true, g, .shift sd closed record.figures⟩]) ∧
      t.sau.shiftNumber =
        (if (s.shiftSide sd.other).pending = true then s.sau.shiftNumber else s.sau.shiftNumber + 1) ∧
      ∀ p, p < 2048 → sideOf p = sd → (t.spindle p).endsDown = 0 ∧ (t.spindle p).downSweeps = 0 ∧
        (t.spindle p).slipSweeps = 0 ∧ (t.spindle p).sensorFaults = 0)) ∧
  ∀ r : ShiftRecord,
    (r.evaluable = 0 → r.efficiency = none) ∧
    (r.evaluable ≠ 0 → r.efficiency = some (r.running * 1000 / r.evaluable)) ∧
    (∀ e, r.running ≤ r.evaluable → r.efficiency = some e → e ≤ 1000) ∧
    r.massG = r.massAcc / 100000000 ∧
    (r.evaluableMs = 0 → r.breakRate = none) ∧
    (r.evaluableMs ≠ 0 → r.breakRate = some (r.endsDown * 3600000000 / r.evaluableMs)) ∧
    r.figures = ⟨r.efficiency, r.massG, r.breakRate⟩ ∧
    (∀ ms, 0 < ms → r.evaluable ≠ 0 → r.evaluableMs = r.evaluable * ms →
      r.breakRate = some (r.endsDown * 3600000000 / (r.evaluable * ms)))

/-! ### Service Bus Master -/

/-- POLL_CYCLE_START: the cycle number advances modulo 10, the first cycle being 0, and the cycle owes one poll to
each ONLINE unit and, in cycle 0, one probe to each OFFLINE unit, the drive first and the rest in ascending address;
the first begins at once with what the unit's record and the Drive Ceiling Unit hold (R161, R162). No pass-through
waits. -/
def Obligations.PollCycleServesEveryUnitOnce : Prop :=
  ∀ s : State, s.sbm.pass = none →
    ∃ t, exec .pollCycleStart s = .next t ∧ s.changesOnly [.cycle, .units] t ∧
      t.sbm.cycle = (if s.sbm.begun then (s.sbm.cycle + 1) % 10 else 0) ∧ t.sbm.begun = true ∧ t.sbm.cycleTimer = 100 ∧
      let owed := (match t.sbm.current with | some x => [(x.addr, x.probe)] | none => []) ++ t.sbm.exchanges
      let drive (a : Nat) : Bool := (s.unit a).role == .drive
      (∀ a, (a, false) ∈ owed ↔ 1 ≤ a ∧ a ≤ 7 ∧ (s.unit a).state = .online) ∧
      (∀ a, (a, true) ∈ owed ↔ 1 ≤ a ∧ a ≤ 7 ∧ (s.unit a).state = .offline ∧ t.sbm.cycle = 0) ∧
      owed.Pairwise (fun x y => (drive x.1 = true ∧ drive y.1 = false) ∨ (drive x.1 = drive y.1 ∧ x.1 < y.1)) ∧
      ∀ x, t.sbm.current = some x →
        x.msg = (if x.probe then none else (s.unit x.addr).slot) ∧
        x.answer = (if x.probe then none else (s.unit x.addr).answer) ∧
        x.ceiling = if drive x.addr then
          some ⟨s.dcu.ceiling, s.dcu.positioning, s.dcu.startPending && decide (2 ≤ modeRank s.dcu.ceiling)⟩ else none

/-- GOOD_ANSWER: a frame that spells one of the unit messages of 11.5 is that message's row; a frame that is no frame
with a right check is a missed answer (R163, R183). A good answer without a message keeps its unit ONLINE with no
missed poll, delivers the slot message that the poll carried and takes the cause flag, whose setting is an occurrence
of UNIT_CAUSE (R162, R163, R166). A good answer to the probe of an OFFLINE unit brings the unit ONLINE with a
UNIT_STATE report (R163); the channel bound to a carriage becomes IDLE with offer misses 0 and ready, and reports it
where its zone is enabled (R68); the drive's return stops the grace timer and ends grace expired (R141), and tells the
Doff Controller the drive at doff fact (R96, R138); the creel changer's return places the next single change and starts its
change timer (R127). That a row is the whole answer that carries its message is the model's choice (log
entry 9), and so are the codes of flags and directions (log entry 24), and that a frame without its start delimiter
fails its check (log entry 80). -/
def Obligations.GoodAnswerFramesAreTaken : Prop :=
  (let frame (a : Byte) (cause : Bool) (type : Nat) (args : List Byte) : List Byte :=
     let body := a :: (if cause then 1#8 else 0#8) :: 0#8 :: BitVec.ofNat 8 type :: BitVec.ofNat 8 args.length :: args
     0x7E#8 :: body ++ crcBytes body
   let flag (b : Bool) : Byte := if b then 1#8 else 0#8
   let outcomes : List CarriageOutcome := [.pieced, .failed, .noRoving, .blocked, .aborted]
   let modes : List CeilingMode := [.halt, .stop, .crawl, .trim, .full]
   (∀ (s : State) (a h l : Byte) (cause q r st ad f : Bool) (data : List Byte), data.length ≤ 19 →
     exec (.goodAnswer (frame a cause 0x41 [flag q])) s = exec (.accept a.toNat cause q) s ∧
     (∀ n o, outcomes[n]? = some o →
       exec (.goodAnswer (frame a cause 0x42 [flag q, BitVec.ofNat 8 n])) s = exec (.done a.toNat cause q o) s) ∧
     (∀ d : Direction, exec (.goodAnswer (frame a cause 0x43 [h, l, if d = .up then 0#8 else 1#8])) s =
       exec (.position a.toNat cause (h.toNat * 256 + l.toNat) d) s) ∧
     exec (.goodAnswer (frame a cause 0x44 [flag r])) s = exec (.status a.toNat cause r) s ∧
     exec (.goodAnswer (frame a cause 0x45 [])) s = exec (.ready a.toNat cause) s ∧
     exec (.goodAnswer (frame a cause 0x46 [])) s = exec (.doffDone a.toNat cause) s ∧
     exec (.goodAnswer (frame a cause 0x47 [])) s = exec (.fault a.toNat cause) s ∧
     (∀ n m, modes[n]? = some m → exec (.goodAnswer (frame a cause 0x48 [BitVec.ofNat 8 n, flag st, flag ad, flag f])) s =
       exec (.actual a.toNat cause m st ad f) s) ∧
     exec (.goodAnswer (frame a cause 0x49 [h, l])) s =
       exec (.creelChangerDone a.toNat cause (h.toNat * 256 + l.toNat)) s ∧
     exec (.goodAnswer (frame a cause 0x4A [h, l])) s =
       exec (.creelChangerFailed a.toNat cause (h.toNat * 256 + l.toNat)) s ∧
     exec (.goodAnswer (frame a cause 0x4B (h :: data))) s = exec (.passThroughReply a.toNat cause h data) s) ∧
   ∀ (s : State) (bytes : List Byte), (∀ body, bytes ≠ 0x7E#8 :: body ++ crcBytes body) →
     exec (.goodAnswer bytes) s = exec .missedAnswer s) ∧
  (∀ (s : State) (x : Exchange) (r : Role) (cause : Bool), s.polls x r → s.quiet → s.sbm.pass = none →
     s.channelsAt x.addr = [] →
     let body : List Byte := [BitVec.ofNat 8 x.addr, if cause then 1#8 else 0#8, 0#8, 0#8, 0#8]
     ∃ t, exec (.goodAnswer (0x7E#8 :: body ++ crcBytes body)) s = .next t ∧ s.answered t x none ∧
       s.changesOnly [.alerts, .cycle, .reports, .units] t ∧ (t.unit x.addr).causeFlag = cause ∧
       ((s.unit x.addr).causeFlag = cause → s.changesOnly [.cycle, .units] t) ∧
       ((s.unit x.addr).causeFlag = false → cause = true → s.occurs t .unitCause (some x.addr)) ∧
       (∀ n, x.msg = some (.singleChange n) ∨ x.msg = some .doffStart → (s.unit x.addr).slot = x.msg →
         (s.unit x.addr).carried = true → (s.unit x.addr).waiting = [] → (t.unit x.addr).slot = none) ∧
       ∀ a, a ≠ x.addr → (t.unit a).slot = (s.unit a).slot ∧ (t.unit a).state = (s.unit a).state) ∧
  (∀ (s : State) (x : Exchange), s.sbm.current = some x → x.probe = true → 1 ≤ x.addr → x.addr ≤ 7 →
     (s.unit x.addr).state = .offline → s.quiet → s.sbm.pass = none → s.mli.reports.length < 95 →
     let body : List Byte :=
       [BitVec.ofNat 8 x.addr, if (s.unit x.addr).causeFlag then 1#8 else 0#8, 0#8, 0#8, 0#8]
     let online (t : State) (ps : List Part) (more : List ReportBody) : Prop :=
       exec (.goodAnswer (0x7E#8 :: body ++ crcBytes body)) s = .next t ∧ s.changesOnly ps t ∧
       (t.unit x.addr).state = .online ∧ (t.unit x.addr).missedPolls = 0 ∧
       (t.unit x.addr).role = (s.unit x.addr).role ∧ (∀ a, a ≠ x.addr → (t.unit a).state = (s.unit a).state) ∧
       ∃ l : List Report, t.mli.reports = s.mli.reports ++ l ∧ List.Perm (l.map (·.body))
         (.unitState x.addr (s.unit x.addr).role .offline .online (s.unit x.addr).missedTotal :: more)
     ((s.unit x.addr).role = .doffer → ∃ t, online t [.cycle, .reports, .units] []) ∧
     ((s.unit x.addr).role = .drive → s.addressOf .drive = some x.addr → s.channelsAt x.addr = [] →
       (s.dc.state = .full → s.dc.dofferReady = false) →
       ∃ t, online t [.cycle, .doff, .drive, .reports, .units] [] ∧
         t.dcu.graceTimer = none ∧ t.dcu.graceExpired = false ∧ t.dcu.startPending = s.dcu.startPending ∧
         t.dcu.lastActual = s.dcu.lastActual ∧ t.dcu.confirmed = s.dcu.confirmed ∧ t.dcu.disobey = s.dcu.disobey ∧
         t.dcu.lines.runPermit = (s.dcu.confirmed && s.dcu.ceiling != .halt) ∧
         t.dc = { s.dc with
           driveAtDoff := match s.dcu.lastActual with
             | some y => y.stopped && y.atDoff && !y.fault
             | none => false }) ∧
     ((s.unit x.addr).role = .creelChanger → s.addressOf .creelChanger = some x.addr → s.channelsAt x.addr = [] →
       (s.cc.inFlight ≠ none ∨ s.cc.waiting = [] → ∃ t, online t [.cycle, .reports, .units] []) ∧
       ∀ p ps, s.cc.inFlight = none → s.cc.waiting = p :: ps → (s.unit x.addr).slot = none →
         (s.unit x.addr).waiting = [] →
         ∃ t, online t [.creel, .cycle, .reports, .units] [] ∧
           (t.unit x.addr).slot = some (.singleChange p) ∧ t.cc.inFlight = some p ∧ t.cc.waiting = ps ∧
           t.cc.changeTimer = some 120000 ∧ t.cc.sections = s.cc.sections ∧ t.cc.queue = s.cc.queue) ∧
     ∀ c, (s.unit x.addr).role = .carriage → s.channelsAt x.addr = [c] → (s.channel c).state = .offline →
       (s.channel c).offlineCause = some .unit → (s.channel c).holdPending = false →
       (s.channel c).hold = true ∨ (s.channel c).block = true ∨ s.breakQueue c = [] →
       s.pd.protection = false → s.dc.state ≠ .full →
       ∃ t, online t [.channels, .cycle, .doff, .reports, .units]
           (if (s.zone c).enabled then [.channelState c .idle none] else []) ∧
         t.channel c = { s.channel c with
           state := .idle, job := none, offlineCause := none, cancelCause := none, offerPolls := none, jobTimer := none
           cancelTimer := none, offerMisses := 0, carriageReady := true } ∧
         ∀ d, d ≠ c → t.channel d = s.channel d)

/-- MISSED_ANSWER counts a missed poll and keeps what the poll carried for the next one (R162, R163).
MISSED_POLLS_LIMIT, a command of its own that makes the third missed poll outside the answer (the model's choice, log entry
2), takes the unit OFFLINE with a UNIT_STATE report; the doffer's loss outside DOFFING clears doffer_ready, and in DOFFING
enters DOFF_FAULT; the drive's starts the grace timer and ends drive_at_doff (R96, R102, R106, R141, R163). A carriage's loss
drops its slot's messages and takes its channel OFFLINE, with the job withdrawn and the seq toggled where it had one, and
with CARRIAGE_OFFLINE and CHANNEL_STATE where its zone is enabled (R34, R66, R68); the creel changer's returns the single
change in flight to the head of the list (R127). That the messages waiting for the slot go too is log entry 36. -/
def Obligations.MissedPollsTakeUnitOffline : Prop :=
  (∀ (s : State) (x : Exchange) (r : Role), s.polls x r → (s.unit x.addr).missedPolls < 2 → s.quiet →
    s.sbm.pass = none → s.channelsAt x.addr = [] →
    ∃ t, exec .missedAnswer s = .next t ∧ s.changesOnly [.cycle, .units] t ∧
      (t.unit x.addr).state = .online ∧ (t.unit x.addr).missedPolls = (s.unit x.addr).missedPolls + 1 ∧
      (t.unit x.addr).missedTotal = min 65535 ((s.unit x.addr).missedTotal + 1) ∧
      (t.unit x.addr).slot = (s.unit x.addr).slot ∧ (t.unit x.addr).answer = (s.unit x.addr).answer ∧
      (t.unit x.addr).causeFlag = (s.unit x.addr).causeFlag ∧ t.sbm.exchanges = s.sbm.exchanges.tail) ∧
  (∀ (s : State) (a : Nat) (r : Role), 1 ≤ a → a ≤ 7 → (s.unit a).role = r → (s.unit a).state = .online →
    (s.unit a).missedPolls = 2 → s.quiet → s.sbm.pass = none → s.sbm.current = none → s.mli.reports.length < 96 →
    let lost (t : State) : Prop :=
      (t.unit a).state = .offline ∧ (t.unit a).missedTotal = min 65535 ((s.unit a).missedTotal + 1) ∧
      (t.unit a).answer = none ∧ (t.unit a).slot = (s.unit a).slot ∧
      s.posts t [.unitState a r .online .offline (min 65535 ((s.unit a).missedTotal + 1))] ∧
      ∀ b, b ≠ a → t.unit b = s.unit b
    (r = .doffer → s.dc.state ≠ .doffing →
      ∃ t, exec (.missedPollsLimit a) s = .next t ∧ lost t ∧ s.changesOnly [.doff, .reports, .units] t ∧
        t.dc = { s.dc with dofferReady := false }) ∧
    (r = .drive → s.addressOf .drive = some a → s.dc.state ≠ .full →
      ∃ t, exec (.missedPollsLimit a) s = .next t ∧ lost t ∧ s.changesOnly [.doff, .drive, .reports, .units] t ∧
        t.dcu.graceTimer = some 2000 ∧ t.dc = { s.dc with driveAtDoff := false })) ∧
  (∀ (s : State) (a : Nat) (r : Role), 1 ≤ a → a ≤ 7 → (s.unit a).role = r → (s.unit a).state = .online →
    (s.unit a).missedPolls = 2 → s.quiet → s.sbm.pass = none → s.sbm.current = none → s.mli.reports.length < 94 →
    let lost (t : State) : Prop :=
      exec (.missedPollsLimit a) s = .next t ∧ (t.unit a).state = .offline ∧ (t.unit a).answer = none ∧
      ∃ l, t.mli.reports = s.mli.reports ++ l ∧
        .unitState a r .online .offline (min 65535 ((s.unit a).missedTotal + 1)) ∈ l.map Report.body
    (r = .doffer → s.addressOf .doffer = some a → s.dc.state = .doffing →
      ∃ t, lost t ∧ s.changesOnly [.alerts, .doff, .reports, .rows, .units] t ∧
        t.dc = { s.dc with
          state := .doffFault, settlePaused := none, stopTimer := none, clearTimer := none, doffTimer := none
          origin := some .doffing, faultReason := some .dofferOffline, dofferReady := false } ∧
        s.occurs t .dofferFault none ∧ (t.ceilingRow .doffFault).cause = true ∧
        (t.unit a).slot ≠ some .doffStart ∧ (t.unit a).slot ≠ some .doffPrepare) ∧
    (r = .creelChanger → s.addressOf .creelChanger = some a →
      ∃ t, lost t ∧ s.changesOnly [.creel, .reports, .units] t ∧ (t.unit a).slot = none ∧ (t.unit a).waiting = [] ∧
        t.cc.inFlight = none ∧
        (∀ p, s.cc.inFlight = some p → t.cc.waiting = p :: s.cc.waiting ∧ t.cc.changeTimer = none) ∧
        (s.cc.inFlight = none → t.cc.waiting = s.cc.waiting)) ∧
    ∀ c, r = .carriage → s.channelsAt a = [c] → (s.channel c).state ≠ .offline → s.dc.state ≠ .full →
      (∀ d ∈ channelNumbers, d ≠ c → (s.channel d).hold = true) →
      ∃ t, lost t ∧ s.changesOnly [.alerts, .channels, .doff, .queues, .reports, .spindles, .units] t ∧
        (t.unit a).slot = none ∧ (t.unit a).waiting = [] ∧
        t.channel c = { s.channel c with
          state := .offline, job := none, offlineCause := some .unit, cancelCause := none, offerPolls := none
          jobTimer := none, cancelTimer := none
          seq := if (s.channel c).state = .offered ∨ (s.channel c).state = .busy then !(s.channel c).seq
            else (s.channel c).seq } ∧
        (∀ d, d ≠ c → t.channel d = s.channel d) ∧
        ((s.zone c).enabled = true → s.occurs t .carriageOffline (some c) ∧
          ∃ g, ⟨false, g, .channelState c .offline (some .unit)⟩ ∈ t.mli.reports) ∧
        ∀ p, p < 2048 → (s.channel c).state = .offered ∨ (s.channel c).state = .busy → (s.channel c).job = some p →
          (s.spindle p).state = .piecing → (s.spindle p).queued = false → s.zoneOf p = some c →
          (s.breakQueue c).length < 64 →
          (t.spindle p).state = .down ∧ (t.spindle p).downSince = (s.spindle p).downSince ∧
            (t.spindle p).attempts = (s.spindle p).attempts ∧ p ∈ t.breakQueue c)

/-- PASS_READ and PASS_WRITE in range, with the pass-through slot free and the unit ONLINE, take the slot, enter the
unit's slot where it is empty, and are not answered yet; otherwise the first check that fails answers RANGE, BUSY or
UNIT_OFFLINE (R165, R167). A unit's pass-through reply to the poll that carried the request ends it: OK with the
status and the data of a read, and the slot becomes FREE (R164, R168); data of more than 16 bytes are returned too
(the model's choice, log entry 70). PASS_TIMEOUT, a command of its own that makes the third poll without a reply (the
model's choice, log entry 2), ends it with TIMEOUT, and its unit's going OFFLINE with UNIT_OFFLINE, both with the unit
and the register (R163, R168). -/
def Obligations.PassThroughTakesItsSlotAndEnds : Prop :=
  (∀ (src tag u reg n : Nat) (data : List Byte) (s : State), s.accepts →
     (1 ≤ u → u ≤ 7 → reg ≤ 255 → 1 ≤ n → n ≤ 16 → 1 ≤ data.length → data.length ≤ 16 →
       (s.sbm.pass = none → (s.unit u).state = .online →
         let polls : Option Nat := if (s.unit u).slot = none then some 0 else none
         (∃ t, exec (.passRead src tag u reg n) s = .next t ∧ s.changesOnly [.pass, .units] t ∧
           t.sbm.pass = some ⟨src, tag, .read n, u, reg, polls⟩ ∧ (∀ a, a ≠ u → t.unit a = s.unit a) ∧
           (t.unit u).slot = if (s.unit u).slot = none then some (.passRead reg n) else (s.unit u).slot) ∧
         (∃ t, exec (.passWrite src tag u reg data) s = .next t ∧ s.changesOnly [.pass, .units] t ∧
           t.sbm.pass = some ⟨src, tag, .write data, u, reg, polls⟩ ∧ (∀ a, a ≠ u → t.unit a = s.unit a) ∧
           (t.unit u).slot = if (s.unit u).slot = none then some (.passWrite reg data) else (s.unit u).slot)) ∧
       (s.sbm.pass.isSome = true ∨ (s.sbm.pass = none ∧ (s.unit u).state ≠ .online) →
         let code : ReplyCode := if s.sbm.pass.isSome then .busy else .unitOffline
         (∃ t, exec (.passRead src tag u reg n) s = .next t ∧ s.answers t src tag 0x4A code .none ∧
           s.changesOnly [.replies] t) ∧
         ∃ t, exec (.passWrite src tag u reg data) s = .next t ∧ s.answers t src tag 0x4B code .none ∧
           s.changesOnly [.replies] t)) ∧
     (u = 0 ∨ 7 < u ∨ 255 < reg ∨ n = 0 ∨ 16 < n →
       ∃ t, exec (.passRead src tag u reg n) s = .next t ∧ s.answers t src tag 0x4A .range .none ∧
         s.changesOnly [.replies] t) ∧
     (u = 0 ∨ 7 < u ∨ 255 < reg ∨ data = [] ∨ 16 < data.length →
       ∃ t, exec (.passWrite src tag u reg data) s = .next t ∧ s.answers t src tag 0x4B .range .none ∧
         s.changesOnly [.replies] t)) ∧
  ((∀ (s : State) (x : Exchange) (ro : Role) (cause : Bool) (st : Byte) (data : List Byte) (src tag reg n k : Nat)
     (d : List Byte), s.polls x ro → (s.unit x.addr).causeFlag = cause → s.quiet → s.channelsAt x.addr = [] →
     s.mli.replies.length < 8 →
     (s.sbm.pass = some ⟨src, tag, .read n, x.addr, reg, some k⟩ → x.msg = some (.passRead reg n) →
       ∃ t, exec (.passThroughReply x.addr cause st data) s = .next t ∧
         s.answers t src tag 0x4A .ok (.pass st data) ∧ t.sbm.pass = none ∧
         s.changesOnly [.cycle, .pass, .replies, .units] t ∧
         ((s.unit x.addr).slot = x.msg → (s.unit x.addr).waiting = [] → (t.unit x.addr).slot = none)) ∧
     (s.sbm.pass = some ⟨src, tag, .write d, x.addr, reg, some k⟩ → x.msg = some (.passWrite reg d) →
       ∃ t, exec (.passThroughReply x.addr cause st data) s = .next t ∧
         s.answers t src tag 0x4B .ok (.pass st []) ∧ t.sbm.pass = none ∧
         s.changesOnly [.cycle, .pass, .replies, .units] t)) ∧
   (∀ (s : State) (p : PassRequest), s.sbm.pass = some p → p.polls = some 2 → s.mli.replies.length < 8 →
     ∃ t, exec .passTimeout s = .next t ∧
       s.answers t p.src p.tag (match p.kind with | .read _ => 0x4A | .write _ => 0x4B) .timeout
         (.unitRegister p.addr p.register) ∧
       t.sbm.pass = none ∧ s.changesOnly [.pass, .replies, .units] t ∧ ∀ a, a ≠ p.addr → t.unit a = s.unit a) ∧
   ∀ (s : State) (p : PassRequest), s.sbm.pass = some p → 1 ≤ p.addr → p.addr ≤ 7 → (s.unit p.addr).state = .online →
     (s.unit p.addr).role = .doffer → (s.unit p.addr).missedPolls = 2 → s.dc.state ≠ .doffing → s.quiet →
     s.sbm.current = none → s.mli.replies.length < 8 → s.mli.reports.length < 96 →
     ∃ t, exec (.missedPollsLimit p.addr) s = .next t ∧
       s.answers t p.src p.tag (match p.kind with | .read _ => 0x4A | .write _ => 0x4B) .unitOffline
         (.unitRegister p.addr p.register) ∧
       t.sbm.pass = none ∧ (t.unit p.addr).state = .offline ∧
       s.changesOnly [.doff, .pass, .replies, .reports, .units] t)

/-! ### Mill Line Interface: links, frames, transmitters -/

/-- IDLE_FILL sets its port's link UP and starts its three seconds anew; LINK_TIMEOUT sets it DOWN; a change is
reported with LINK_STATE (R171). A LINK_TIMEOUT of a link that is DOWN is no event and changes nothing (the model's choice,
log entry 3). No restart is armed. -/
def Obligations.LinkFollowsWhatIsHeard : Prop :=
  ∀ (p : Port) (s : State), s.mli.restartArmed = false → s.mli.reports.length < 96 →
    (∃ t, exec (.idleFill p) s = .next t ∧ s.changesOnly [.line, .reports] t ∧
      t.mli.port p = { s.mli.port p with up := true, silence := some 3000 } ∧
      (∀ q, q ≠ p → t.mli.port q = s.mli.port q) ∧
      if (s.mli.port p).up then s.changesOnly [.line] t else s.posts t [.linkState p true]) ∧
    ((s.mli.port p).up = true →
      ∃ t, exec (.linkTimeout p) s = .next t ∧ s.changesOnly [.line, .reports] t ∧
        t.mli.port p = { s.mli.port p with up := false, silence := none } ∧
        (∀ q, q ≠ p → t.mli.port q = s.mli.port q) ∧ s.posts t [.linkState p false]) ∧
    ((s.mli.port p).up = false → ∃ t, exec (.linkTimeout p) s = .next t ∧ s.changesOnly [] t)

/-- MILL_LINE_FRAME: what is no frame with a right check advances the bad-frame counter alone (R171, R183); a frame
for another station enters the forward buffer of its direction, or is dropped and counted where it holds 4 (R172); one
of an unknown type for the part is counted; a request of the part's, and a transport frame, is its row, the frame
having been heard (R172, R174). An EXCHANGE_REQUEST for the part goes to the Creel Controller, which discards and
counts it (log entry 54). That EXCH_DONE's replaced count is one byte of its frame is the model's choice (log entry
24), and so is that a frame without its start delimiter fails its check (log entry 80). Of the requests with arguments
four stand here. -/
def Obligations.MillFrameIsForwardedOrTakenIn : Prop :=
  ∀ (p : Port) (s : State), (s.mli.port p).up = true →
    (∀ bytes : List Byte, (∀ f : MillFrame, f.payload.length ≤ 255 → bytes ≠ encodeMillFrame f) →
      ∃ t, exec (.millLineFrame p bytes) s = .next t ∧ s.changesOnly [.line] t ∧
        t.mli.port p = { s.mli.port p with badFrame := min 65535 ((s.mli.port p).badFrame + 1) } ∧
        (∀ q, q ≠ p → t.mli.port q = s.mli.port q) ∧ t.mli.toUpstream = s.mli.toUpstream ∧
        t.mli.toDownstream = s.mli.toDownstream) ∧
    (∀ f : MillFrame, f.payload.length ≤ 240 → s.mli.station = 0 ∨ f.dest.toNat ≠ s.mli.station.toNat →
      ∃ t, exec (.millLineFrame p (encodeMillFrame f)) s = .next t ∧ s.changesOnly [.line] t ∧
        (t.mli.port p).up = true ∧ (t.mli.port p).silence = some 3000 ∧
        match p with
        | .upstream => t.mli.toUpstream = s.mli.toUpstream ∧
          if s.mli.toDownstream.length < 4 then t.mli.toDownstream = s.mli.toDownstream ++ [encodeMillFrame f]
          else t.mli.toDownstream = s.mli.toDownstream ∧ t.mli.dropDownstream = min 65535 (s.mli.dropDownstream + 1)
        | .downstream => t.mli.toDownstream = s.mli.toDownstream ∧
          if s.mli.toUpstream.length < 4 then t.mli.toUpstream = s.mli.toUpstream ++ [encodeMillFrame f]
          else t.mli.toUpstream = s.mli.toUpstream ∧ t.mli.dropUpstream = min 65535 (s.mli.dropUpstream + 1)) ∧
    (∀ f : MillFrame, f.payload.length ≤ 240 → s.mli.station ≠ 0 → f.dest.toNat = s.mli.station.toNat →
      f.type.toNat = 0 ∨ 1 < f.type.toNat ∧ f.type.toNat < 0x10 ∨ 0x14 < f.type.toNat →
      ∃ t, exec (.millLineFrame p (encodeMillFrame f)) s = .next t ∧ s.changesOnly [.line] t ∧
        t.mli.unknownFrame = min 65535 (s.mli.unknownFrame + 1)) ∧
    (∀ f : MillFrame, f.payload.length ≤ 240 → s.mli.station ≠ 0 → f.dest.toNat = s.mli.station.toNat →
      f.type = 0x10#8 →
      ∃ t, exec (.millLineFrame p (encodeMillFrame f)) s = .next t ∧ s.changesOnly [.creel, .line] t ∧
        t.mli.unknownFrame = s.mli.unknownFrame ∧
        t.cc = { s.cc with
          discardedAnswers := min 65535 (s.cc.discardedAnswers + 1), rovingLamp := t.cc.rovingLamp }) ∧
    (∀ (src row n : Byte) (type : Byte) (payload : List Byte) (i : Instr), s.mli.station ≠ 0 → s.linesAgree →
      (type, payload, i) ∈ [(0x11#8, [row], Instr.transportAck src.toNat row.toNat),
        (0x12#8, [row], .exchStart src.toNat row.toNat), (0x13#8, [row, n], .exchDone src.toNat row.toNat n.toNat),
        (0x14#8, [row, n], .reject src.toNat row.toNat n.toNat),
        (0x01#8, [row, 0x49#8, 0#8, n], .releaseCeilingRow src.toNat row.toNat n.toNat),
        (0x01#8, [row, 0x49#8, 2#8, n], .releaseSection src.toNat row.toNat n.toNat),
        (0x01#8, [row, 0x4D#8, n], .sideReset src.toNat row.toNat n.toNat),
        (0x01#8, [row, 0x02#8, n, 3#8], .unitsWrite src.toNat row.toNat n.toNat 3)] →
      ∃ u, exec (.idleFill p) s = .next u ∧
        exec (.millLineFrame p (encodeMillFrame ⟨s.mli.station.zeroExtend 8, src, type, payload⟩)) s = exec i u) ∧
    ∀ (src tag : Byte) (code : Nat) (i : Instr), s.mli.station ≠ 0 → s.linesAgree →
      (code, i) ∈ [(0x20, Instr.readThresholds src.toNat tag.toNat), (0x23, .doffStatus src.toNat tag.toNat),
        (0x2A, .lineStatus src.toNat tag.toNat), (0x40, .shiftClose src.toNat tag.toNat),
        (0x41, .doffNow src.toNat tag.toNat), (0x42, .doffDefer src.toNat tag.toNat),
        (0x4E, .restart src.toNat tag.toNat), (0x7F, .unknownTable src.toNat tag.toNat 0x7F)] →
      ∃ u, exec (.idleFill p) s = .next u ∧
        exec (.millLineFrame p (encodeMillFrame ⟨s.mli.station.zeroExtend 8, src, 0x01#8, [tag, BitVec.ofNat 8 code]⟩)) s
          = exec i u

/-- UPSTREAM_FRAME_END chooses the next frame: forwarded and own frames take turns where both wait, own frames leave
only while the upstream link is UP, replies before alerts before transport frames before reports; a report that leaves
below a fill of 32 clears the high mark with QUEUE_RELIEF (R173, R179). The row is the moment of choice also where the
transmitter was idle (the model's choice, log entry 15). The replies stated are those of one frame without a read's data
(log entry 22). DOWNSTREAM_FRAME_END sends the next forwarded frame (R172). No restart is armed. -/
def Obligations.TransmittersTakeTurns : Prop :=
  (∀ s : State, s.mli.restartArmed = false →
    (∀ b rest, s.mli.toUpstream = b :: rest →
      s.mli.lastOwn = true ∨ s.mli.upstream.up = false ∨
        (s.mli.replies = [] ∧ s.mli.transport = [] ∧ s.mli.reports = [] ∧ ∀ c, (s.alert c).send = false) →
      ∃ t, exec .upstreamFrameEnd s = .next t ∧ s.changesOnly [.line] t ∧ t.mli.upTx = some (.forwarded b) ∧
        t.mli.toUpstream = rest ∧ t.mli.lastOwn = false) ∧
    (s.mli.upstream.up = true → s.mli.toUpstream = [] ∨ s.mli.lastOwn = false →
      (∀ r rs, s.mli.replies = r :: rs →
        r.data = .none ∨ (∃ n, r.data = .count n) ∨ (∃ a, r.data = .applied a) ∨ (∃ b d, r.data = .pass b d) ∨
          (∃ a b, r.data = .unitRegister a b) →
        ∃ t, exec .upstreamFrameEnd s = .next t ∧ s.changesOnly [.line, .replies] t ∧
          t.mli.upTx = some (.reply r r.sent true) ∧ t.mli.replies = rs ∧ t.mli.lastOwn = true ∧
          t.mli.toUpstream = s.mli.toUpstream) ∧
      (∀ c, s.mli.replies = [] → (s.alert c).send = true → (∀ d, d.code < c.code → (s.alert d).send = false) →
        ∃ t, exec .upstreamFrameEnd s = .next t ∧ s.changesOnly [.line, .alerts] t ∧
          t.mli.upTx = some (.alert c (s.alert c).occurrences (s.alert c).detail) ∧ (t.alert c).send = false ∧
          (t.alert c).pending = (s.alert c).pending ∧ t.mli.lastOwn = true) ∧
      (∀ f fs, s.mli.replies = [] → (∀ c, (s.alert c).send = false) → s.mli.transport = f :: fs →
        ∃ t, exec .upstreamFrameEnd s = .next t ∧ s.changesOnly [.line, .transport] t ∧
          t.mli.upTx = some (.transport f) ∧ t.mli.transport = fs ∧ t.mli.lastOwn = true) ∧
      (∀ r rs, s.mli.replies = [] → (∀ c, (s.alert c).send = false) → s.mli.transport = [] → s.mli.reports = r :: rs →
        ∃ t, exec .upstreamFrameEnd s = .next t ∧ s.changesOnly [.line, .alerts, .reports] t ∧
          t.mli.upTx = some (.report r) ∧ t.mli.reports = rs ∧ t.mli.lastOwn = true ∧
          t.mli.highMark = (s.mli.highMark && decide (32 ≤ rs.length)) ∧
          (s.mli.highMark = true → rs.length < 32 → s.occurs t .queueRelief none))) ∧
    (s.mli.toUpstream = [] → s.mli.upstream.up = false →
      ∃ t, exec .upstreamFrameEnd s = .next t ∧ s.changesOnly [.line] t ∧ t.mli.upTx = none)) ∧
  ∀ s : State, ∃ t, exec .downstreamFrameEnd s = .next t ∧ s.changesOnly [.line] t ∧
    t.mli.downTx = s.mli.toDownstream.head? ∧ t.mli.toDownstream = s.mli.toDownstream.tail ∧
    t.mli.toUpstream = s.mli.toUpstream

/-- An EVENT is appended with the present event_gap while fewer than 96 are held, and counted as a gap otherwise; a
RECORD always enters, at 128 in the place of the oldest EVENT, or of the oldest RECORD where no EVENT is held;
REPORT_GAP is raised at each advance of event_gap from 0 and of record_gap (R178). The high mark is set when the fill
reaches 96 (R179). REPORT_GAP is raised with record_gap at its limit too (the model's choice, log entry 72). -/
def Obligations.PostingFollowsQueueRules : Prop :=
  ∀ (s : State) (b : ReportBody),
    (s.mli.reports.length < 96 →
      (postEvent b s).mli.reports = s.mli.reports ++ [⟨false, s.mli.eventGap, b⟩] ∧ (postEvent b s).mli.eventGap = 0 ∧
      (postEvent b s).mli.highMark = (s.mli.highMark || decide (s.mli.reports.length = 95)) ∧
      s.changesOnly [.reports] (postEvent b s)) ∧
    (96 ≤ s.mli.reports.length → s.changesOnly [.alerts, .reports] (postEvent b s) ∧
      (postEvent b s).mli.highMark = s.mli.highMark ∧ (postEvent b s).mli.recordGap = s.mli.recordGap ∧
      (postEvent b s).mli.reports = s.mli.reports ∧ (postEvent b s).mli.eventGap = min 65535 (s.mli.eventGap + 1) ∧
      (postEvent b s).alert .reportGap =
        (if s.mli.eventGap = 0 then (s.alert .reportGap).occur none else s.alert .reportGap)) ∧
    s.changesOnly [.alerts, .reports] (postRecord b s) ∧
    (postRecord b s).mli.highMark = (s.mli.highMark || decide (95 ≤ s.mli.reports.length)) ∧
    (s.mli.reports.length < 128 →
      ∃ g, (postRecord b s).mli.reports = s.mli.reports ++ [⟨true, g, b⟩] ∧ s.changesOnly [.reports] (postRecord b s)) ∧
    (∀ l e r, s.mli.reports = l ++ e :: r → s.mli.reports.length = 128 → (∀ x ∈ l, x.record = true) →
      e.record = false →
      ∃ g, (postRecord b s).mli.reports = l ++ r ++ [⟨true, g, b⟩] ∧
        (postRecord b s).mli.eventGap = min 65535 (s.mli.eventGap + 1) ∧
        (postRecord b s).mli.recordGap = s.mli.recordGap ∧
        (postRecord b s).alert .reportGap =
          (if s.mli.eventGap = 0 then (s.alert .reportGap).occur none else s.alert .reportGap)) ∧
    (∀ e r, s.mli.reports = e :: r → s.mli.reports.length = 128 → (∀ x ∈ s.mli.reports, x.record = true) →
      ∃ g, (postRecord b s).mli.reports = r ++ [⟨true, g, b⟩] ∧
        (postRecord b s).mli.recordGap = min 65535 (s.mli.recordGap + 1) ∧
        (postRecord b s).mli.eventGap = s.mli.eventGap ∧
        (postRecord b s).alert .reportGap = (s.alert .reportGap).occur none)

/-- Reading the mill line frame that is sent gives the frame back, for every frame the line carries: no byte of it is
dropped and its check is right (11.1, R183). -/
def Obligations.MillFrameRoundTrip : Prop :=
  ∀ f : MillFrame, f.payload.length ≤ 240 → parseMillFrame (encodeMillFrame f) = some f

/-! ### Management requests -/

/-- A request of a code the part has not is answered UNKNOWN_TABLE. Every management request is answered OVERRUN where
all four places are held, and BUSY while a restart is armed, and is not executed (R174, R177); where both hold it is OVERRUN
(log entry 41). -/
def Obligations.RequestsAreTurnedAway : Prop :=
  (∀ (src tag code : Nat) (s : State), s.accepts →
    ∃ t, exec (.unknownTable src tag code) s = .next t ∧ s.answers t src tag code .unknownTable .none ∧
      s.changesOnly [.replies] t) ∧
  ∀ (i : Instr) (src tag code : Nat) (s : State), Instr.request i = some (src, tag, code) → s.mli.replies.length < 8 →
    (4 ≤ s.placesHeld → ∃ t, exec i s = .next t ∧ s.answers t src tag code .overrun .none ∧
      s.changesOnly [.replies] t) ∧
    (s.placesHeld < 4 → s.mli.restartArmed = true →
      ∃ t, exec i s = .next t ∧ s.answers t src tag code .busy .none ∧ s.changesOnly [.replies] t)

/-- ALERT_ACK clears each named cause, and makes a level cause whose condition is present pending again with
occurrences 1, to be sent where it is enabled; it is answered OK, and a name that is no cause refuses the whole
command with RANGE (R181). That a cause pending again has no detail is the model's reading (log entry 26). -/
def Obligations.AlertAckClearsCauses : Prop :=
  ∀ (src tag : Nat) (causes : List Nat) (s : State), s.accepts → causes ≠ [] →
    ((∀ n ∈ causes, 1 ≤ n ∧ n ≤ 11) →
      ∃ t, exec (.alertAck src tag causes) s = .next t ∧ s.answers t src tag 0x4C .ok .none ∧
        s.changesOnly [.alerts, .replies] t ∧
        ∀ c : AlertCause,
          let present : Bool :=
            match c with
            | .railFault => (s.railOf .a).state == .fault || (s.railOf .b).state == .fault
            | .panelStop => s.dcu.lines.panelStop
            | .unitCause => [1, 2, 3, 4, 5, 6, 7].any fun a => (s.unit a).causeFlag
            | .ceilingLocked => rowNames.any fun n => (s.ceilingRow n).latched
            | _ => false
          t.alert c =
            if c.code ∈ causes then
              { pending := present, enabled := (s.alert c).enabled, occurrences := if present then 1 else 0
                detail := none, send := present && (s.alert c).enabled }
            else s.alert c) ∧
    ((∃ n ∈ causes, n = 0 ∨ 11 < n) →
      ∃ t, exec (.alertAck src tag causes) s = .next t ∧ s.answers t src tag 0x4C .range .none ∧
        s.changesOnly [.replies] t)

/-- SIDE_RESET of a configured side restarts its rail: HUNT with fresh heads, sweep number 0, an open window, a clear prior
map, the current map composed from the spindles as they then stand, and the sweep-start frame with number 0 sent (R15,
R17); its spindles that are not MASKED return to UNKNOWN, or to DOFF_PAUSE while the spindles are paused (R43). Before that
every OFFERED or BUSY channel whose zone row names the side goes to CANCELLING with cancel_cause RESET, its seq toggled and
its CANCEL placed, and the break queues of the side's channels are emptied; the other channels and queues are left, but for
a job of the side's channels whose spindle lies on the other side (R79, R80, R81, R86).
An IDLE side is left as it is (R16). Both are answered OK, another side RANGE (R177). -/
def Obligations.SideResetRestartsSide : Prop :=
  ∀ (src tag : Nat) (sd : Side) (s : State), s.accepts → s.quiet →
    ((s.railOf sd).installed ≠ 0 →
      ∃ t, exec (.sideReset src tag sd.code) s = .next t ∧ s.answers t src tag 0x4D .ok .none ∧
        s.changesOnly [.alerts, .channels, .creel, .doff, .length sd, .queues, .rail sd, .replies, .reports, .rows,
          .shift, .spindles, .units] t ∧
        (let clear := List.replicate (s.railOf sd).installed false
        t.railOf sd = { s.railOf sd with
          state := .hunt, huntCount := 0, noGoodRun := 0, sweepNumber := 0
          heads := List.replicate ((s.railOf sd).installed / 16) {}
          window := List.replicate ((s.railOf sd).installed / 16) .unanswered
          windowOpen := true, sweepTimer := some s.thresholds.sweepMs
          windowTimer := some (s.thresholds.sweepMs - 100), priorMap := clear
          currentMap := (t.railOf sd).currentMap, lastFrame := (t.railOf sd).lastFrame }) ∧
        ((s.railOf sd).installed ≤ 1024 →
          (t.railOf sd).currentMap = (s.positions sd).map t.rovingStopFlag ∧
          (t.railOf sd).lastFrame = some ⟨sd, 0, false, (s.positions sd).map t.rovingStopFlag⟩) ∧
        (∀ c, c < 4 → (s.zone c).side = sd →
          t.breakQueue c = [] ∧ (∀ p ∈ s.breakQueue c, (t.spindle p).queued = false) ∧
          t.channel c =
            (if (s.channel c).state = .offered ∨ (s.channel c).state = .busy then
              { s.channel c with
                state := .cancelling, job := none, offlineCause := none, cancelCause := some .reset, offerPolls := none
                jobTimer := none, cancelTimer := some 10000, seq := !(s.channel c).seq }
            else s.channel c) ∧
          ∀ a, (s.channel c).state = .offered ∨ (s.channel c).state = .busy → (s.zone c).address = some a →
            s.channelsAt a = [c] → 1 ≤ a → a ≤ 7 → (s.unit a).state ≠ .absent → (s.unit a).slot = none →
            (s.unit a).waiting = [] → (t.unit a).slot = some (.cancel c (s.channel c).seq)) ∧
        ((∀ c p, c < 4 → (s.zone c).side = sd → (s.channel c).job = some p → sideOf p = sd) →
          ∀ c, c < 4 → (s.zone c).side ≠ sd → t.channel c = s.channel c ∧ t.breakQueue c = s.breakQueue c) ∧
        ∀ p, p < 2048 → sideOf p = sd → p < sd.base + (s.railOf sd).installed →
          (t.spindle p).state = (if (s.spindle p).state = .masked then .masked
            else if s.dc.state = .doffing ∨ (s.dc.state = .settle ∧ s.dc.settlePaused = some true) then .doffPause
            else .unknown) ∧
          (t.spindle p).attempts = 0 ∧ (t.spindle p).provisionalMm = 0 ∧ (t.spindle p).queued = false ∧
          (t.spindle p).belowRun = 0 ∧ (t.spindle p).aboveRun = 0) ∧
    ((s.railOf sd).installed = 0 →
      ∃ t, exec (.sideReset src tag sd.code) s = .next t ∧ s.answers t src tag 0x4D .ok .none ∧
        s.changesOnly [.replies] t) ∧
    ∀ n, 1 < n → ∃ t, exec (.sideReset src tag n) s = .next t ∧ s.answers t src tag 0x4D .range .none ∧
      s.changesOnly [.replies] t

/-- RESTART with room for its reply and the upstream link UP is answered OK and arms the restart, which takes effect
when the reply has left (R177). WARM_RESTART, armed, leaves every block as its reset rule says. MLI (R182): replies,
transport list and report queue emptied (what the queue then holds are the state changes of the restart itself), high mark
and event_gap clear, the arbiter tie forwarded first, every alert cleared and the level causes that are present pending
again; links, forward buffers, counters, record_gap and waiting writes kept. SBM (R170): every unit OFFLINE with an empty
slot, in which a frame in NEAR_FULL places DOFF_PREPARE anew (R110), no pass-through, cycle 0. DCU (R146): every row keeps
active and latched until the first close, the grace timer at 2 s, disobey count 0, a start pending in SETTLE alone. PD
(R88): the channels OFFLINE, the queues empty, protection only in SETTLE and DOFF_FAULT. The sides (R17, R43): HUNT and a
new sweep, the spindles UNKNOWN or MASKED. SAU (R158): the rate blocks 0 and the rest kept. CC (R130): every section
SUPPLIED, its lists empty. DC (R110): FULL and DOFFING become DOFF_FAULT, the timers stopped, the facts no. Without an armed
restart the row does nothing (the model's choice, log entry 3). That a level cause pending again has no detail is the model's
reading (log entry 26), that CARRIAGE_OFFLINE stands rests on the order of the blocks' restarts (log entry 11), its detail on
that of the channels (log entry 77), and that the exchanges of the bus are dropped is a choice too (log entry 79). -/
def Obligations.RestartArmsAndRestarts : Prop :=
  (∀ (src tag : Nat) (s : State), s.accepts → s.mli.upstream.up = true →
    ∃ t, exec (.restart src tag) s = .next t ∧ s.changesOnly [.replies, .writes] t ∧
      t.mli.replies = s.mli.replies ++ [⟨src, tag, .ok, 0x4E, .none, 0, true⟩] ∧ t.mli.restartArmed = true ∧
      t.mli.deferred = s.mli.deferred) ∧
  (∀ s : State, s.mli.restartArmed = false → ∃ t, exec .warmRestart s = .next t ∧ s.changesOnly [] t) ∧
  ∀ s : State, s.mli.restartArmed = true →
    let inService (sd : Side) : Prop := (s.railOf sd).installed ≠ 0
    let protects : Bool := s.dc.state == .full || s.dc.state == .doffing || s.dc.state == .doffFault || s.dc.state == .settle
    let faults : Bool := s.dc.state == .full || s.dc.state == .doffing
    let gone : List Nat := [0, 1, 2, 3].filter fun c => (s.zone c).enabled && (s.channel c).state != .offline
    ∃ t, exec .warmRestart s = .next t ∧
      s.changesOnly [.alerts, .channels, .creel, .cycle, .doff, .drive, .length .a, .length .b, .line, .pass, .queues,
        .rail .a, .rail .b, .replies, .reports, .rows, .shift, .spindles, .transport, .units, .writes] t ∧
      t.mli = { s.mli with
        deferred := s.mli.deferred.map (fun e => { e with holdsPlace := false })
        replies := [], transport := [], reports := t.mli.reports, highMark := false, eventGap := 0
        alerts := t.mli.alerts, lastOwn := true, upTx := s.mli.upTx.map TxFrame.disarmed, restartArmed := false } ∧
      t.mli.reports.length < 96 ∧
      (∀ r ∈ t.mli.reports, r.record = false ∧ r.eventGap = 0 ∧
        match r.body with
        | .unitState a role old new _ =>
          (s.unit a).role = role ∧ (s.unit a).state = old ∧ (t.unit a).state = new ∧ old ≠ new
        | .channelState c st cause => c ∈ gone ∧ st = .offline ∧ cause = some .unit
        | .railState sd old new _ idx =>
          inService sd ∧ (s.railOf sd).state = old ∧ old ≠ .hunt ∧ new = .hunt ∧ (s.railOf sd).sweepIndex = idx
        | .sectionState r sd old new _ _ _ _ _ =>
          (s.creelSection r).config.side = sd ∧ (s.creelSection r).state = old ∧ old ≠ .supplied ∧ new = .supplied
        | .doffState old new _ _ _ _ reason =>
          faults = true ∧ s.dc.state = old ∧ new = .doffFault ∧ reason = some .restart
        | .ceilingChange _ _ _ _ => True
        | _ => False) ∧
      (∀ c : AlertCause, c ≠ .carriageOffline →
        let present : Bool :=
          match c with
          | .panelStop => s.dcu.lines.panelStop
          | .unitCause => [1, 2, 3, 4, 5, 6, 7].any fun a => (s.unit a).causeFlag
          | .ceilingLocked => rowNames.any fun n => (s.ceilingRow n).latched
          | .dofferFault => faults
          | _ => false
        t.alert c =
          { pending := present, enabled := (s.alert c).enabled, occurrences := if present then 1 else 0
            detail := none, send := present && (s.alert c).enabled }) ∧
      t.alert .carriageOffline =
        { pending := !gone.isEmpty, enabled := (s.alert .carriageOffline).enabled, occurrences := gone.length
          detail := gone.getLast?, send := !gone.isEmpty && (s.alert .carriageOffline).enabled } ∧
      t.sbm = { s.sbm with
        units := t.sbm.units, pass := none, cycle := 0, begun := false, exchanges := [], current := none } ∧
      (∀ a, 1 ≤ a → a ≤ 7 → t.unit a = { s.unit a with
        state := if (s.unit a).role = .none then .absent else .offline
        missedPolls := 0, carried := false, waiting := [], answer := none
        slot := if s.dc.state = .nearFull ∧ s.addressOf .doffer = some a then some .doffPrepare else none }) ∧
      t.dcu = { s.dcu with
        rows := t.dcu.rows, ceiling := t.dcu.ceiling, positioning := t.dcu.positioning, disobey := 0
        graceTimer := if [1, 2, 3, 4, 5, 6, 7].any fun a => (s.unit a).role == .drive then some 2000 else s.dcu.graceTimer
        startPending := s.dc.state == .settle, reevaluate := true, lines := t.dcu.lines } ∧
      t.ceilingAgrees ∧ t.linesAgree ∧
      (∀ n, t.ceilingRow n = { s.ceilingRow n with
        cause := (t.ceilingRow n).cause, mode := (t.ceilingRow n).mode, positioning := (t.ceilingRow n).positioning }) ∧
      (∀ n, n ≠ .doff → (t.ceilingRow n).mode = (s.ceilingRow n).mode ∧
        (t.ceilingRow n).positioning = (s.ceilingRow n).positioning) ∧
      (∀ n, n = .breakRate ∨ n = .downLimit ∨ n = .panelStop ∨ n = .overrideRow →
        (t.ceilingRow n).cause = (s.ceilingRow n).cause) ∧
      (∀ sd, (t.ceilingRow (railRow sd)).cause =
        ((s.ceilingRow (railRow sd)).cause && ((s.railOf sd).installed == 0 || (s.railOf sd).state == .hunt))) ∧
      (t.ceilingRow .doffFault).cause = (t.dc.state == .doffFault) ∧
      ((t.ceilingRow .doff).cause, (t.ceilingRow .doff).mode, (t.ceilingRow .doff).positioning) =
        (match t.dc.state with
          | .unconfigured | .build | .nearFull => (false, none, false)
          | .full | .doffing | .doffFault => (true, some .stop, true)
          | .settle => (true, some .crawl, false)
          | .ramp => (true, some .trim, false)) ∧
      t.pd.protection = protects ∧
      (∀ c, c < 4 → t.breakQueue c = [] ∧
        t.channel c =
          { state := .offline, job := none, seq := false, hold := protects, holdPending := false, block := false
            autoHold := false, heldByDoff := protects, offlineCause := some .unit, cancelCause := none, offerMisses := 0
            offerPolls := none, jobTimer := none, cancelTimer := none, carriageReady := true, parkSent := false
            position := (s.channel c).position, direction := (s.channel c).direction }) ∧
      (∀ sd, (inService sd →
          (let clear := List.replicate (s.railOf sd).installed false
          t.railOf sd = { s.railOf sd with
            state := .hunt, huntCount := 0, noGoodRun := 0, sweepNumber := 0
            heads := List.replicate ((s.railOf sd).installed / 16) {}
            window := List.replicate ((s.railOf sd).installed / 16) .unanswered
            windowOpen := true, sweepTimer := some s.thresholds.sweepMs
            windowTimer := some (s.thresholds.sweepMs - 100), priorMap := clear
            currentMap := (t.railOf sd).currentMap, lastFrame := (t.railOf sd).lastFrame }) ∧
          ((s.railOf sd).installed ≤ 1024 →
            (t.railOf sd).currentMap = (s.positions sd).map t.rovingStopFlag ∧
            (t.railOf sd).lastFrame = some ⟨sd, 0, false, (s.positions sd).map t.rovingStopFlag⟩) ∧
          t.lengthSide sd = (s.lengthSide sd).sample s.lu.pulses ∧
          ∀ p, p < 2048 → sideOf p = sd → t.spindle p = { s.spindle p with
            state := if (s.spindle p).state = .masked then .masked else .unknown
            belowRun := 0, aboveRun := 0, attempts := 0, queued := false, provisionalMm := 0
            downSince := none, observedRun := none, verifyCount := none }) ∧
        (¬ inService sd → t.railOf sd = s.railOf sd ∧ t.lengthSide sd = s.lengthSide sd ∧
          ∀ p, p < 2048 → sideOf p = sd → t.spindle p = { s.spindle p with queued := false }) ∧
        t.shiftSide sd = { s.shiftSide sd with block := {} }) ∧
      t.sau.shiftNumber = s.sau.shiftNumber ∧
      t.cc = { s.cc with
        sections := t.cc.sections, queue := [], stalled := [], inFlight := none, waiting := [], changeTimer := none
        rovingLamp := t.cc.rovingLamp } ∧
      (∀ r, r < 64 → t.creelSection r = { config := (s.creelSection r).config }) ∧
      t.dc = { s.dc with
        state := if faults then .doffFault else s.dc.state
        origin := if s.dc.state = .full then some .full else if s.dc.state = .doffing then some .doffing else s.dc.origin
        faultReason := if faults then some .restart else s.dc.faultReason
        settlePaused := if faults then none else s.dc.settlePaused
        dofferReady := false, driveAtDoff := false, carriagesClear := false, protecting := protects
        stopTimer := none, clearTimer := none, doffTimer := none }

/-! ### Reads and writes -/

/-- Each read is answered OK with what its rule names, as it stands at that moment, and changes nothing else; a range
that does not lie in one side's installed spindles, a side other than A and B, and more than 64 spindle records are
RANGE (R8, R60, R87, R109, R129, R145, R157, R169, R175). Timers of the channels, the doff and the sections are given in
whole seconds left (log entry 55), LINE_STATUS counts its own request queue place (log entry 37), and DOFF_STATUS gives a full
target and a prewarn point of 0 while no article is active (the model's choice, log entry 85). -/
def Obligations.ReadsReturnTheirRecords : Prop :=
  ∀ (src tag : Nat) (s : State), s.accepts →
    let returns (i : Instr) (code : Nat) (c : ReplyCode) (d : ReplyData) : Prop :=
      ∃ t, exec i s = .next t ∧ s.answers t src tag code c d ∧ s.changesOnly [.replies] t ∧ t.cc = s.cc ∧ t.dcu = s.dcu
    let seconds (x : Timer) : Timer := x.map (· / 1000)
    let status (sd : Side) : ShiftSideStatus :=
      ⟨s.shiftSide sd, (s.railOf sd).sweepIndex, (s.shiftSide sd).current.figures,
        (s.shiftSide sd).closed.counts.figures⟩
    returns (.readThresholds src tag) 0x20 .ok (.thresholds s.thresholds) ∧
    returns (.lengthStatus src tag) 0x21 .ok (.length s.lu s.dc.delivered) ∧
    returns (.piecingStatus src tag) 0x22 .ok
      (.piecing s.pd.zones.toList (s.pd.channels.toList.map fun x =>
          { x with jobTimer := seconds x.jobTimer, cancelTimer := seconds x.cancelTimer })
        ([0, 1, 2, 3].map fun c => (s.breakQueue c).map fun p =>
          ⟨p, (s.spindle p).downSince, (s.railOf (s.zone c).side).sweepIndex - (s.spindle p).downSince.getD 0⟩)
        (let figures (d : DownLoad) : DownFigures :=
          ⟨d.falsePieces.length + d.unqueued.length + d.reds.length, !d.reds.isEmpty, !d.outsideZones.isEmpty⟩
        ⟨figures s.pd.downLoad.a, figures s.pd.downLoad.b⟩)) ∧
    returns (.doffStatus src tag) 0x23 .ok (.doff
      { s.dc with
        stopTimer := seconds s.dc.stopTimer, clearTimer := seconds s.dc.clearTimer, doffTimer := seconds s.dc.doffTimer }
      s.dc.fullTarget s.dc.prewarnPoint) ∧
    returns (.ceilingStatus src tag) 0x24 .ok (.ceiling
      { rows := s.dcu.rows, ceiling := s.dcu.ceiling, positioning := s.dcu.positioning, lastActual := s.dcu.lastActual
        confirmed := s.dcu.confirmed, disobey := s.dcu.disobey, graceTimer := s.dcu.graceTimer
        graceExpired := s.dcu.graceExpired, startPending := s.dcu.startPending, rates := s.dcu.rates
        lines := s.dcu.lines }) ∧
    returns (.shiftStatus src tag) 0x25 .ok (.shift s.sau.shiftNumber ⟨status .a, status .b⟩) ∧
    returns (.busStatus src tag) 0x26 .ok (.bus
      (s.sbm.units.toList.map fun u =>
        { role := u.role, state := u.state, missedPolls := u.missedPolls, missedTotal := u.missedTotal
          causeFlag := u.causeFlag
          slotType := u.slot.map fun m => match m with
            | .job _ _ _ => 0x01
            | .cancel _ _ => 0x02
            | .park _ => 0x03
            | .doffPrepare => 0x04
            | .doffStart => 0x05
            | .singleChange _ => 0x06
            | .passRead _ _ => 0x07
            | .passWrite _ _ => 0x08
          answerCode := u.answer.map fun a => match a with | .ack => 0x20 | .late => 0x21 | .refused => 0x22 })
      (s.sbm.pass.map fun p => { tag := p.tag, unit := p.addr, register := p.register, polls := p.polls })
      s.sbm.cycle) ∧
    (∃ l, returns (.lineStatus src tag) 0x2A .ok (.line l) ∧ l.station = s.mli.station.toNat ∧
      l.links = [s.mli.upstream.up, s.mli.downstream.up] ∧ l.fill = s.mli.reports.length ∧
      l.eventGap = s.mli.eventGap ∧ l.recordGap = s.mli.recordGap ∧ l.highMark = s.mli.highMark ∧
      l.counters = [s.mli.upstream.badFrame, s.mli.downstream.badFrame, s.mli.dropUpstream, s.mli.dropDownstream,
        s.mli.unknownFrame, s.mli.replyDrop, s.mli.transportDrop] ∧
      l.placesHeld = s.placesHeld + 1 ∧ l.deferred.map (·.tag) = s.mli.deferred.map (·.tag) ∧
      l.deferred.map (·.table) = s.mli.deferred.map (fun e => e.write.code) ∧ l.alerts = s.mli.alerts.toList) ∧
    (∀ sd : Side, returns (.railStatus src tag sd.code) 0x27 .ok (.rail
      { counters := (s.railOf sd).counters, state := (s.railOf sd).state, sweepNumber := (s.railOf sd).sweepNumber
        sweepIndex := (s.railOf sd).sweepIndex
        lostCount := ((s.railOf sd).heads.filter fun h => h.state == .lost).length
        noGoodRun := (s.railOf sd).noGoodRun, huntCount := (s.railOf sd).huntCount
        installed := (s.railOf sd).installed, rovingStop := (s.railOf sd).rovingStop, heads := (s.railOf sd).heads })) ∧
    (∀ n, 1 < n → returns (.railStatus src tag n) 0x27 .range .none) ∧
    (∀ f l, s.names f l → returns (.creelStatus src tag f l) 0x28 .ok
      (.creel (s.cc.sections.toList.map fun x =>
          { x with transportTimer := seconds x.transportTimer, backoffTimer := seconds x.backoffTimer })
        ((s.cc.queue.filter (·.urgent) ++ s.cc.queue.filter (fun e => !e.urgent)).map fun e =>
          ⟨e.row, (s.creelSection e.row).state, e.urgent, e.entryNumber⟩)
        s.cc.inFlight s.cc.waiting s.cc.discardedAnswers s.cc.loads s.cc.rovingLamp
        ((positionRange f l).map s.bobbin))) ∧
    (∀ f l, ¬ s.names f l → returns (.creelStatus src tag f l) 0x28 .range .none) ∧
    (∀ f l, s.names f l → l + 1 - f ≤ 64 →
      returns (.spindleRecords src tag f l) 0x29 .ok (.spindles ((positionRange f l).map s.spindle))) ∧
    ∀ f l, ¬ s.names f l ∨ 64 < l + 1 - f → returns (.spindleRecords src tag f l) 0x29 .range .none

/-- An accepted table write of a frame that sweeps on both sides joins the deferred write list with its tag, its
checked and clamped values and its request queue place, and is not answered yet (R1, R2, R20, R42, R62, R91, R112,
R131, R159, R176, R180). A write outside its ranges is refused with RANGE in every state of the sides, an
ARTICLE_ACTIVE write in a doff state that does not take it, and a DOFF_FAULT row not enabled and locked, with
PROTECTED; of a wrong article and a wrong doff state RANGE is answered (the model's choice, log entry 59). The byte
codes of flags, roving_stop and roles are the model's choice too (log entry 24), and so is RANGE for an ALERT_ENABLE
that names no cause (log entry 47). -/
def Obligations.WritesWaitForTheirClose : Prop :=
  ∀ (src tag : Nat) (s : State), s.accepts →
    let sweeps : Prop := (s.railOf .a).installed ≠ 0 ∧ (s.railOf .b).installed ≠ 0
    let waits (i : Instr) (w : TableWrite) (clamped : Bool) : Prop := sweeps →
      ∃ t, exec i s = .next t ∧ s.changesOnly [.writes] t ∧
        t.mli.deferred = s.mli.deferred ++ [⟨src, tag, w, clamped, true⟩] ∧ t.mli.restartArmed = s.mli.restartArmed
    let refused (i : Instr) (table : Nat) (code : ReplyCode) : Prop :=
      ∃ t, exec i s = .next t ∧ s.answers t src tag table code .none ∧ s.changesOnly [.replies] t
    (∀ w : ThresholdFields, s.mli.deferred = [] →
      let within (lo hi : Nat) (x : Option Nat) : Option Nat := x.map fun v => max lo (min hi v)
      let c : ThresholdFields := { w with
        sweepMs := w.sweepMs.map fun v =>
          if v < 500 then 500 else if 4000 < v then 4000 else (v + 125) / 250 * 250
        thrRun := within 1 255 w.thrRun, pMin := within 1 255 w.pMin, downConfirm := within 1 15 w.downConfirm
        runConfirm := within 1 15 w.runConfirm, verifySweeps := within 1 15 w.verifySweeps
        mppQ := within 1 65535 w.mppQ, maxWait := within 60 3600 w.maxWait, jobLimit := within 10 250 w.jobLimit
        attemptsMax := within 1 7 w.attemptsMax, downLimit := within 0 1024 w.downLimit
        stopLimit := within 20 300 w.stopLimit, doffLimit := within 60 900 w.doffLimit
        settleSweeps := within 1 15 w.settleSweeps, transportLimit := within 60 3600 w.transportLimit
        trimOn := within 1 9999 w.trimOn, trimOff := within 1 9999 w.trimOff
        blockSweeps := within 60 3600 w.blockSweeps }
      let good : Prop := c.thrBreak.getD s.thresholds.thrBreak < c.thrRun.getD s.thresholds.thrRun ∧
        c.trimOff.getD s.thresholds.trimOff < c.trimOn.getD s.thresholds.trimOn ∧ w.transportStation.getD 0 ≤ 63
      (good → waits (.thresholdsWrite src tag w) (.thresholds c) (decide (c ≠ w))) ∧
      (¬ good → refused (.thresholdsWrite src tag w) 0x01 .range)) ∧
    (∀ a n,
      (∀ r, 1 ≤ a → a ≤ 7 → roleOfCode n = some r → waits (.unitsWrite src tag a n) (.units a r) false) ∧
      (a = 0 ∨ 7 < a ∨ 4 < n → refused (.unitsWrite src tag a n) 0x02 .range)) ∧
    (∀ n e l d,
      (∀ r, rowOfCode n = some r → e ≤ 1 → l ≤ 1 → r ≠ .doffFault ∨ (e = 1 ∧ l = 1) →
        waits (.ceilingRowsWrite src tag n e l d) (.ceilingRow r (e == 1) (l == 1) (min 255 d)) (decide (255 < d))) ∧
      (7 < n ∨ 1 < e ∨ 1 < l → refused (.ceilingRowsWrite src tag n e l d) 0x03 .range) ∧
      (rowOfCode n = some .doffFault → e ≤ 1 → l ≤ 1 → e = 0 ∨ l = 0 →
        refused (.ceilingRowsWrite src tag n e l d) 0x03 .protected_)) ∧
    (∀ w : ArticleFields,
      let inRange : Prop := 1 ≤ w.number ∧ w.number ≤ 65535 ∧ 100 ≤ w.texX100 ∧ w.texX100 ≤ 20000 ∧ 100 ≤ w.tpm ∧
        w.tpm ≤ 4000 ∧ 1000 ≤ w.draftX100 ∧ w.draftX100 ≤ 9999 ∧ 500 ≤ w.fullCopM ∧ w.fullCopM ≤ 60000 ∧
        100 ≤ w.bobbinM ∧ w.bobbinM ≤ 6000
      let a : Article := ⟨w.number, w.texX100, w.tpm, w.draftX100, w.fullCopM, w.bobbinM, min 2000 w.prewarnM,
        min 2000 w.rampM, min 2000 w.deferM, min 255 w.shortCopQ8⟩
      let c := decide (2000 < w.prewarnM ∨ 2000 < w.rampM ∨ 2000 < w.deferM ∨ 255 < w.shortCopQ8)
      let taken : Prop := s.dc.state = .unconfigured ∨ s.dc.state = .doffing
      (inRange → taken → waits (.articleActiveWrite src tag w) (.articleActive a) c) ∧
      (inRange → waits (.articleNextWrite src tag w) (.articleNext a) c) ∧
      (inRange → ¬ taken → refused (.articleActiveWrite src tag w) 0x04 .protected_) ∧
      (¬ inRange → refused (.articleActiveWrite src tag w) 0x04 .range ∧
        refused (.articleNextWrite src tag w) 0x04 .range)) ∧
    waits (.articleNextEmpty src tag) .articleNextEmpty false ∧
    (∀ cs : List (AlertCause × Bool), cs ≠ [] →
      waits (.alertEnable src tag (cs.map fun c => (c.1.code, if c.2 then 1 else 0))) (.alertEnable cs) false) ∧
    (∀ cs : List (Nat × Nat), cs = [] ∨ (∃ c ∈ cs, c.1 = 0 ∨ 11 < c.1 ∨ 1 < c.2) →
      refused (.alertEnable src tag cs) 0x05 .range) ∧
    (∀ n f,
      (∀ sd : Side, n = 0 ∨ (n % 16 = 0 ∧ 64 ≤ n ∧ n ≤ 1024) → f ≤ 1 →
        waits (.spindleMapWrite src tag sd.code n f) (.spindleMap sd n (f == 1)) false) ∧
      ∀ d, 1 < d ∨ 1 < f ∨ (n ≠ 0 ∧ (n % 16 ≠ 0 ∨ n < 64 ∨ 1024 < n)) →
        refused (.spindleMapWrite src tag d n f) 0x06 .range) ∧
    (∀ row e a f l,
      (∀ sd : Side, row ≤ 3 → e ≤ 1 → 1 ≤ a → a ≤ 7 → f + 15 ≤ l → l ≤ 2047 →
        waits (.zoneTableWrite src tag row ⟨e, a, sd.code, f, l⟩) (.zone row ⟨e == 1, some a, sd, f, l⟩) false) ∧
      ∀ d, 3 < row ∨ 1 < e ∨ a = 0 ∨ 7 < a ∨ 1 < d ∨ l < f + 15 ∨ 2047 < l →
        refused (.zoneTableWrite src tag row ⟨e, a, d, f, l⟩) 0x07 .range) ∧
    (∀ row e f l k r x,
      (∀ sd : Side, row ≤ 63 → e ≤ 1 → f + 7 ≤ l → l ≤ f + 95 → l ≤ 2047 → 1 ≤ k → k ≤ l + 1 - f →
        waits (.sectionTableWrite src tag row ⟨e, sd.code, f, l, k, r, x⟩)
          (.creelSection row ⟨e == 1, sd, f, l, k, min 500 r, min 50 x⟩) (decide (500 < r ∨ 50 < x))) ∧
      ∀ d, 63 < row ∨ 1 < e ∨ 1 < d ∨ l < f + 7 ∨ f + 95 < l ∨ 2047 < l ∨ k = 0 ∨ l + 1 - f < k →
        refused (.sectionTableWrite src tag row ⟨e, d, f, l, k, r, x⟩) 0x08 .range) ∧
    ∀ f l n,
      (∀ o, s.names f l → overrideOfCode n = some o → waits (.maskTableWrite src tag f l n) (.mask f l o) false) ∧
      (¬ s.names f l ∨ 2 < n → refused (.maskTableWrite src tag f l n) 0x09 .range)

/-- While both sides are IDLE a frame-wide write, and a SPINDLE_MAP write of an IDLE side, is applied and answered OK
at once, and the removal of the DRIVE role starts the grace timer whether the unit is ONLINE or not (R1, R20, R62, R63, R91,
R112, R113, R131, R141, R159, R160, R176, R180). A write that fails its second check then is refused with nothing changed:
a role that another unit has, a map that an enabled zone or section reaches beyond, and a zone or section enabled on a side
without spindles (R1, R62, R112, R159). The byte codes of flags, roving_stop and roles are the model's choice (log entry 24),
and so is the grace timer of an OFFLINE drive whose role is removed, with its one report (log entry 27). -/
def Obligations.WritesAreApplied : Prop :=
  ∀ (src tag : Nat) (s : State), s.accepts → s.quiet → (s.railOf .a).installed = 0 → (s.railOf .b).installed = 0 →
    let done (t : State) (code : Nat) : Prop :=
      s.answers t src tag code .ok (.applied none) ∧ t.mli.deferred = s.mli.deferred
    (∀ n, s.mli.deferred = [] → s.thresholds.thrBreak < s.thresholds.thrRun →
      s.thresholds.trimOff < s.thresholds.trimOn → 10 ≤ n → n ≤ 250 →
      ∃ t, exec (.thresholdsWrite src tag { jobLimit := some n }) s = .next t ∧ done t 0x01 ∧
        s.changesOnly [.thresholds, .replies] t ∧ t.thresholds = { s.thresholds with jobLimit := n }) ∧
    (∀ a n r, 1 ≤ a → a ≤ 7 → roleOfCode n = some r → r ≠ .none → r ≠ .carriage → (s.unit a).state = .absent →
      (s.unit a).role = .none → s.sbm.pass = none → s.channelsAt a = [] → s.mli.reports.length < 96 →
      (∀ b, 1 ≤ b → b ≤ 7 → (s.unit b).role ≠ r) → s.addressOf r = none →
      ∃ t, exec (.unitsWrite src tag a n) s = .next t ∧ done t 0x02 ∧ s.changesOnly [.units, .reports, .replies] t ∧
        (t.unit a).role = r ∧ (t.unit a).state = .offline ∧ (t.unit a).missedPolls = 0 ∧
        (∀ b, b ≠ a → t.unit b = s.unit b) ∧
        s.posts t [.unitState a r .absent .offline (s.unit a).missedTotal]) ∧
    (∀ n, n % 16 = 0 → 64 ≤ n → n ≤ 1024 → s.reachesBeyond .a n = false →
      ∃ t, exec (.spindleMapWrite src tag 0 n 1) s = .next t ∧ done t 0x06 ∧ (t.railOf .a).installed = n ∧
        (t.railOf .a).rovingStop = true ∧ (t.railOf .a).state = .hunt ∧ (t.railOf .a).windowOpen = true ∧
        (t.railOf .a).heads.length = n / 16 ∧ t.railOf .b = s.railOf .b) ∧
    (∀ w : ArticleFields, ArticleFields.inRange w = true → w.prewarnM ≤ 2000 → w.rampM ≤ 2000 → w.deferM ≤ 2000 →
      w.shortCopQ8 ≤ 255 →
      let a : Article := ⟨w.number, w.texX100, w.tpm, w.draftX100, w.fullCopM, w.bobbinM, w.prewarnM, w.rampM,
        w.deferM, w.shortCopQ8⟩
      (s.dc.state = .unconfigured → ∃ t, exec (.articleActiveWrite src tag w) s = .next t ∧ done t 0x04 ∧
        s.changesOnly [.doff, .replies] t ∧ t.dc = { s.dc with active := some a }) ∧
      ∃ t, exec (.articleNextWrite src tag w) s = .next t ∧ done t 0x04 ∧ s.changesOnly [.doff, .replies] t ∧
        t.dc = { s.dc with next := some a }) ∧
    (∃ t, exec (.articleNextEmpty src tag) s = .next t ∧ done t 0x04 ∧ s.changesOnly [.doff, .replies] t ∧
      t.dc = { s.dc with next := none }) ∧
    (∀ n r e l d, rowOfCode n = some r → r ≠ .doffFault → e ≤ 1 → l ≤ 1 → d ≤ 255 →
      ∃ t, exec (.ceilingRowsWrite src tag n e l d) s = .next t ∧ done t 0x03 ∧
        s.changesOnly [.alerts, .replies, .reports, .rows] t ∧ (t.ceilingRow r).enable = (e == 1) ∧
        (t.ceilingRow r).lock = (l == 1) ∧ (t.ceilingRow r).dwellMin = d ∧ t.ceilingAgrees ∧
        ∀ q, q ≠ r → t.ceilingRow q = s.ceilingRow q) ∧
    (∀ n c e, alertOfCode n = some c → e ≤ 1 →
      ∃ t, exec (.alertEnable src tag [(n, e)]) s = .next t ∧ done t 0x05 ∧ s.changesOnly [.alerts, .replies] t ∧
        t.alert c = { s.alert c with
          enabled := e == 1, send := e == 1 && ((s.alert c).send || (s.alert c).pending) } ∧
        ∀ d, d ≠ c → t.alert d = s.alert d) ∧
    (∀ (sd : Side) row a f l, row ≤ 3 → 1 ≤ a → a ≤ 7 → f + 15 ≤ l → l ≤ 2047 → (s.channel row).inJob = false →
      ∃ t, exec (.zoneTableWrite src tag row ⟨0, a, sd.code, f, l⟩) s = .next t ∧ done t 0x07 ∧
        s.changesOnly [.channels, .queues, .replies, .spindles, .units, .zones] t ∧
        t.zone row = ⟨false, some a, sd, f, l⟩ ∧ t.breakQueue row = [] ∧ ∀ d, d ≠ row → t.zone d = s.zone d) ∧
    (∀ (sd : Side) row f l k r x, row ≤ 63 → f + 7 ≤ l → l ≤ f + 95 → l ≤ 2047 → 1 ≤ k → k ≤ l + 1 - f → r ≤ 500 →
      x ≤ 50 → (s.creelSection row).state = .supplied →
      ∃ t, exec (.sectionTableWrite src tag row ⟨0, sd.code, f, l, k, r, x⟩) s = .next t ∧ done t 0x08 ∧
        s.changesOnly [.creel, .replies] t ∧
        t.creelSection row = { s.creelSection row with config := ⟨false, sd, f, l, k, r, x⟩ } ∧
        ∀ q, q ≠ row → t.creelSection q = s.creelSection q) ∧
    (∀ a, 1 ≤ a → a ≤ 7 → (s.unit a).role = .drive → (s.unit a).state = .offline →
      (∀ b, b ≠ a → (s.unit b).role ≠ .drive) → s.sbm.pass = none → s.channelsAt a = [] → s.mli.reports.length < 96 →
      ∃ t, exec (.unitsWrite src tag a 0) s = .next t ∧ done t 0x02 ∧
        s.changesOnly [.drive, .units, .reports, .replies] t ∧ (t.unit a).role = .none ∧ (t.unit a).state = .absent ∧
        t.dcu.graceTimer = some 2000) ∧
    (let refused (i : Instr) (table : Nat) (code : ReplyCode) : Prop :=
      ∃ t, exec i s = .next t ∧ s.answers t src tag table code .none ∧ s.changesOnly [.replies] t
    (∀ a n r, 1 ≤ a → a ≤ 7 → roleOfCode n = some r → r ≠ .none → r ≠ .carriage →
      (∃ b, 1 ≤ b ∧ b ≤ 7 ∧ b ≠ a ∧ (s.unit b).role = r) → refused (.unitsWrite src tag a n) 0x02 .conflict) ∧
    (∀ (sd : Side) n f, n = 0 ∨ (n % 16 = 0 ∧ 64 ≤ n ∧ n ≤ 1024) → f ≤ 1 →
      ((∃ c, c < 4 ∧ (s.zone c).enabled = true ∧ (s.zone c).side = sd ∧ sd.base + n ≤ (s.zone c).last) ∨
        ∃ r, r < 64 ∧ (s.creelSection r).config.enabled = true ∧ (s.creelSection r).config.side = sd ∧
          sd.base + n ≤ (s.creelSection r).config.last) →
      refused (.spindleMapWrite src tag sd.code n f) 0x06 .conflict) ∧
    (∀ (sd : Side) row a f l, row ≤ 3 → 1 ≤ a → a ≤ 7 → f + 15 ≤ l → l ≤ 2047 → (s.channel row).inJob = false →
      refused (.zoneTableWrite src tag row ⟨1, a, sd.code, f, l⟩) 0x07 .range) ∧
    ∀ (sd : Side) row f l k r x, row ≤ 63 → f + 7 ≤ l → l ≤ f + 95 → l ≤ 2047 → 1 ≤ k → k ≤ l + 1 - f →
      (s.creelSection row).state = .supplied →
      refused (.sectionTableWrite src tag row ⟨1, sd.code, f, l, k, r, x⟩) 0x08 .range)

/-- At a side's close the writes waiting for it meet their second check as the state then stands, are applied in the
order taken at step 1, a SPINDLE_MAP write at step 8, and are answered with the side and the index of the close, or
refused with CONFLICT, RANGE, BUSY or PROTECTED and nothing of their table changed; a write of the other side's tables
waits on (R1, R15, R16, R20, R42, R62, R91, R112, R131, R159, R176, R180). A spindle beyond a new map is at power-on
(said of one that no break queue and no enabled zone holds: a second check that passes leaves no other). The doffer is
not ready, so that no doff begins at the close. -/
def Obligations.WritesAreCheckedAndAppliedAtClose : Prop :=
  ∀ (sd : Side) (s : State), (s.railOf sd).installed ≠ 0 → (s.railOf sd).windowOpen = true → s.dc.dofferReady = false →
    s.mli.replies.length + s.mli.deferred.length ≤ 8 →
    let index := min 4294967295 ((s.railOf sd).sweepIndex + 1)
    let closes (left : List DeferredWrite) (rs : List Reply) (p : State → Prop) : Prop :=
      ∃ t, exec (.sweepClose sd) s = .next t ∧ t.mli.deferred = left ∧ t.mli.replies = s.mli.replies ++ rs ∧ p t
    let applied (e : DeferredWrite) (table : Nat) : List Reply :=
      [⟨e.src, e.tag, if e.clamped then .okClamped else .ok, table, .applied (some (sd, index)), 0, false⟩]
    let refused (e : DeferredWrite) (table : Nat) (code : ReplyCode) : List Reply :=
      [⟨e.src, e.tag, code, table, .none, 0, false⟩]
    (∀ e, s.mli.deferred = [e] →
      (e.write.side = some sd.other → closes [e] [] fun _ => True) ∧
      (∀ w, e.write = .thresholds w → closes [] (applied e 0x01) fun t => t.thresholds =
        let h := s.thresholds
        { sweepMs := w.sweepMs.getD h.sweepMs, thrRun := w.thrRun.getD h.thrRun
          thrBreak := w.thrBreak.getD h.thrBreak, pMin := w.pMin.getD h.pMin
          downConfirm := w.downConfirm.getD h.downConfirm, runConfirm := w.runConfirm.getD h.runConfirm
          verifySweeps := w.verifySweeps.getD h.verifySweeps, mppQ := w.mppQ.getD h.mppQ
          maxWait := w.maxWait.getD h.maxWait, jobLimit := w.jobLimit.getD h.jobLimit
          attemptsMax := w.attemptsMax.getD h.attemptsMax, downLimit := w.downLimit.getD h.downLimit
          stopLimit := w.stopLimit.getD h.stopLimit, doffLimit := w.doffLimit.getD h.doffLimit
          settleSweeps := w.settleSweeps.getD h.settleSweeps
          transportStation := w.transportStation.getD h.transportStation
          transportLimit := w.transportLimit.getD h.transportLimit, trimOn := w.trimOn.getD h.trimOn
          trimOff := w.trimOff.getD h.trimOff, blockSweeps := w.blockSweeps.getD h.blockSweeps }) ∧
      (∀ a r, e.write = .units a r → 1 ≤ a → a ≤ 7 → s.sbm.pass = none →
        let others := ([1, 2, 3, 4, 5, 6, 7].filter fun b => b != a && (s.unit b).role == r).length
        let free : Prop := r = .none ∨ others < (if r = .carriage then 4 else 1)
        (free → closes [] (applied e 0x02) fun t =>
          (t.unit a).role = r ∧ ∀ b, b ≠ a → (t.unit b).role = (s.unit b).role) ∧
        (¬ free → closes [] (refused e 0x02 .conflict) fun t => ∀ b, (t.unit b).role = (s.unit b).role)) ∧
      (∀ n en l d, e.write = .ceilingRow n en l d → closes [] (applied e 0x03) fun t =>
        (t.ceilingRow n).enable = en ∧ (t.ceilingRow n).lock = l ∧ (t.ceilingRow n).dwellMin = d) ∧
      (∀ a, e.write = .articleActive a →
        (s.dc.state = .unconfigured ∨ s.dc.state = .doffing →
          closes [] (applied e 0x04) fun t => t.dc.active = some a) ∧
        (s.dc.state ≠ .unconfigured → s.dc.state ≠ .doffing →
          closes [] (refused e 0x04 .protected_) fun t => t.dc.active = s.dc.active)) ∧
      (∀ a, e.write = .articleNext a → closes [] (applied e 0x04) fun t => t.dc.next = some a) ∧
      (e.write = .articleNextEmpty → closes [] (applied e 0x04) fun t => t.dc.next = none) ∧
      (∀ c b, e.write = .alertEnable [(c, b)] → closes [] (applied e 0x05) fun t =>
        (t.alert c).enabled = b ∧ ∀ d, d ≠ c → (t.alert d).enabled = (s.alert d).enabled) ∧
      (∀ n f, e.write = .spindleMap sd n f →
        let beyond : Prop :=
          (∃ c, c < 4 ∧ (s.zone c).enabled = true ∧ (s.zone c).side = sd ∧ sd.base + n ≤ (s.zone c).last) ∨
          ∃ r, r < 64 ∧ (s.creelSection r).config.enabled = true ∧ (s.creelSection r).config.side = sd ∧
            sd.base + n ≤ (s.creelSection r).config.last
        (¬ beyond → closes [] (applied e 0x06) fun t => (t.railOf sd).installed = n ∧ (t.railOf sd).rovingStop = f ∧
          (t.railOf sd).sweepIndex = index ∧ (t.railOf sd).sweepNumber = 0 ∧
          (t.railOf sd).state = (if n = 0 then .idle else .hunt) ∧ (t.railOf sd).windowOpen = (n != 0) ∧
          (t.railOf sd).heads.length = n / 16 ∧
          ∀ p, p < 2048 → sideOf p = sd → sd.base + n ≤ p →
            (∀ c, c < 4 → p ∉ s.breakQueue c ∧
              ((s.zone c).enabled = true → p < (s.zone c).first ∨ (s.zone c).last < p)) →
            t.spindle p = {} ∧ t.bobbin p = {}) ∧
        (beyond → closes [] (refused e 0x06 .conflict) fun t => (t.railOf sd).installed = (s.railOf sd).installed ∧
          (t.railOf sd).rovingStop = (s.railOf sd).rovingStop)) ∧
      (∀ row z, e.write = .zone row z → row < 4 → z.side = sd →
        let old := s.zone row
        let other (c : Nat) : Prop := c < 4 ∧ c ≠ row ∧ (s.zone c).enabled = true
        let busy : Prop := (s.channel row).inJob = true ∧ (z.address ≠ old.address ∨ z.side ≠ old.side)
        let outside : Prop := z.enabled = true ∧ ¬ (s.names z.first z.last ∧ sideOf z.first = z.side)
        let conflict : Prop := z.enabled = true ∧
          ((∃ c, other c ∧ z.first ≤ (s.zone c).last ∧ (s.zone c).first ≤ z.last) ∨
            (∀ a, z.address = some a → (s.unit a).role ≠ .carriage) ∨ ∃ c, other c ∧ (s.zone c).address = z.address)
        let kept (t : State) : Prop := ∀ c, t.zone c = s.zone c
        (busy → closes [] (refused e 0x07 .busy) kept) ∧
        (¬ busy → outside → closes [] (refused e 0x07 .range) kept) ∧
        (¬ busy → ¬ outside → conflict → closes [] (refused e 0x07 .conflict) kept) ∧
        (¬ busy → ¬ outside → ¬ conflict → closes [] (applied e 0x07) fun t =>
          t.zone row = z ∧ ∀ c, c ≠ row → t.zone c = s.zone c)) ∧
      (∀ row c, e.write = .creelSection row c → row < 64 → c.side = sd →
        let x := s.creelSection row
        let busy : Prop := (x.state = .requested ∨ x.state = .exchanging) ∧ (c.enabled = false ∨
          c.side ≠ x.config.side ∨ c.first ≠ x.config.first ∨ c.last ≠ x.config.last)
        let outside : Prop := c.enabled = true ∧ ¬ (s.names c.first c.last ∧ sideOf c.first = c.side)
        let conflict : Prop := c.enabled = true ∧ ∃ r, r < 64 ∧ r ≠ row ∧ (s.creelSection r).config.enabled = true ∧
          c.first ≤ (s.creelSection r).config.last ∧ (s.creelSection r).config.first ≤ c.last
        let kept (t : State) : Prop := ∀ r, (t.creelSection r).config = (s.creelSection r).config
        (busy → closes [] (refused e 0x08 .busy) kept) ∧
        (¬ busy → outside → closes [] (refused e 0x08 .range) kept) ∧
        (¬ busy → ¬ outside → conflict → closes [] (refused e 0x08 .conflict) kept) ∧
        (¬ busy → ¬ outside → ¬ conflict → closes [] (applied e 0x08) fun t =>
          (t.creelSection row).config = c ∧ ∀ r, r ≠ row → (t.creelSection r).config = (s.creelSection r).config)) ∧
      ∀ f l o, e.write = .mask f l o → sideOf f = sd → l < 2048 → closes [] (applied e 0x09) fun t =>
        ∀ p, (t.spindle p).override = if f ≤ p ∧ p ≤ l then o else (s.spindle p).override) ∧
    ∀ e d a b, s.mli.deferred = [e, d] → e.write = .articleNext a → d.write = .articleNext b →
      closes [] (applied e 0x04 ++ applied d 0x04) fun t => t.dc.next = some b
end

