-- ==== Sys2Proof/Laws/State.lean ====
section
/-! SUPPORT. The small lemmas of the state: what each named update leaves of each field of `State` (true by `rfl`), and
what reading a record after writing one gives. No later proof unfolds an update. -/

namespace Sys2Proof.Machine

variable (s : State)

/-! ### One lemma per field per update -/

section modRail
variable (sd : Side) (f : Rail → Rail)
@[simp] theorem State.modRail_thresholds : (s.modRail sd f).thresholds = s.thresholds := rfl
@[simp] theorem State.modRail_rail : (s.modRail sd f).rail = s.rail.mod sd f := rfl
@[simp] theorem State.modRail_spindles : (s.modRail sd f).spindles = s.spindles := rfl
@[simp] theorem State.modRail_lu : (s.modRail sd f).lu = s.lu := rfl
@[simp] theorem State.modRail_pd : (s.modRail sd f).pd = s.pd := rfl
@[simp] theorem State.modRail_dc : (s.modRail sd f).dc = s.dc := rfl
@[simp] theorem State.modRail_cc : (s.modRail sd f).cc = s.cc := rfl
@[simp] theorem State.modRail_bobbins : (s.modRail sd f).bobbins = s.bobbins := rfl
@[simp] theorem State.modRail_dcu : (s.modRail sd f).dcu = s.dcu := rfl
@[simp] theorem State.modRail_sau : (s.modRail sd f).sau = s.sau := rfl
@[simp] theorem State.modRail_sbm : (s.modRail sd f).sbm = s.sbm := rfl
@[simp] theorem State.modRail_mli : (s.modRail sd f).mli = s.mli := rfl
@[simp] theorem State.modRail_pending : (s.modRail sd f).pending = s.pending := rfl
end modRail

section setSpindle
variable (p : Nat) (r : Spindle)
@[simp] theorem State.setSpindle_thresholds : (s.setSpindle p r).thresholds = s.thresholds := rfl
@[simp] theorem State.setSpindle_rail : (s.setSpindle p r).rail = s.rail := rfl
@[simp] theorem State.setSpindle_spindles : (s.setSpindle p r).spindles = tset s.spindles p r := rfl
@[simp] theorem State.setSpindle_lu : (s.setSpindle p r).lu = s.lu := rfl
@[simp] theorem State.setSpindle_pd : (s.setSpindle p r).pd = s.pd := rfl
@[simp] theorem State.setSpindle_dc : (s.setSpindle p r).dc = s.dc := rfl
@[simp] theorem State.setSpindle_cc : (s.setSpindle p r).cc = s.cc := rfl
@[simp] theorem State.setSpindle_bobbins : (s.setSpindle p r).bobbins = s.bobbins := rfl
@[simp] theorem State.setSpindle_dcu : (s.setSpindle p r).dcu = s.dcu := rfl
@[simp] theorem State.setSpindle_sau : (s.setSpindle p r).sau = s.sau := rfl
@[simp] theorem State.setSpindle_sbm : (s.setSpindle p r).sbm = s.sbm := rfl
@[simp] theorem State.setSpindle_mli : (s.setSpindle p r).mli = s.mli := rfl
@[simp] theorem State.setSpindle_pending : (s.setSpindle p r).pending = s.pending := rfl
end setSpindle

section modSpindle
variable (p : Nat) (f : Spindle → Spindle)
@[simp] theorem State.modSpindle_thresholds : (s.modSpindle p f).thresholds = s.thresholds := rfl
@[simp] theorem State.modSpindle_rail : (s.modSpindle p f).rail = s.rail := rfl
@[simp] theorem State.modSpindle_spindles : (s.modSpindle p f).spindles = tset s.spindles p (f (s.spindle p)) := rfl
@[simp] theorem State.modSpindle_lu : (s.modSpindle p f).lu = s.lu := rfl
@[simp] theorem State.modSpindle_pd : (s.modSpindle p f).pd = s.pd := rfl
@[simp] theorem State.modSpindle_dc : (s.modSpindle p f).dc = s.dc := rfl
@[simp] theorem State.modSpindle_cc : (s.modSpindle p f).cc = s.cc := rfl
@[simp] theorem State.modSpindle_bobbins : (s.modSpindle p f).bobbins = s.bobbins := rfl
@[simp] theorem State.modSpindle_dcu : (s.modSpindle p f).dcu = s.dcu := rfl
@[simp] theorem State.modSpindle_sau : (s.modSpindle p f).sau = s.sau := rfl
@[simp] theorem State.modSpindle_sbm : (s.modSpindle p f).sbm = s.sbm := rfl
@[simp] theorem State.modSpindle_mli : (s.modSpindle p f).mli = s.mli := rfl
@[simp] theorem State.modSpindle_pending : (s.modSpindle p f).pending = s.pending := rfl
end modSpindle

section setBobbin
variable (p : Nat) (b : Bobbin)
@[simp] theorem State.setBobbin_thresholds : (s.setBobbin p b).thresholds = s.thresholds := rfl
@[simp] theorem State.setBobbin_rail : (s.setBobbin p b).rail = s.rail := rfl
@[simp] theorem State.setBobbin_spindles : (s.setBobbin p b).spindles = s.spindles := rfl
@[simp] theorem State.setBobbin_lu : (s.setBobbin p b).lu = s.lu := rfl
@[simp] theorem State.setBobbin_pd : (s.setBobbin p b).pd = s.pd := rfl
@[simp] theorem State.setBobbin_dc : (s.setBobbin p b).dc = s.dc := rfl
@[simp] theorem State.setBobbin_cc : (s.setBobbin p b).cc = s.cc := rfl
@[simp] theorem State.setBobbin_bobbins : (s.setBobbin p b).bobbins = tset s.bobbins p b := rfl
@[simp] theorem State.setBobbin_dcu : (s.setBobbin p b).dcu = s.dcu := rfl
@[simp] theorem State.setBobbin_sau : (s.setBobbin p b).sau = s.sau := rfl
@[simp] theorem State.setBobbin_sbm : (s.setBobbin p b).sbm = s.sbm := rfl
@[simp] theorem State.setBobbin_mli : (s.setBobbin p b).mli = s.mli := rfl
@[simp] theorem State.setBobbin_pending : (s.setBobbin p b).pending = s.pending := rfl
end setBobbin

section modLength
variable (sd : Side) (f : LengthSide → LengthSide)
@[simp] theorem State.modLength_thresholds : (s.modLength sd f).thresholds = s.thresholds := rfl
@[simp] theorem State.modLength_rail : (s.modLength sd f).rail = s.rail := rfl
@[simp] theorem State.modLength_spindles : (s.modLength sd f).spindles = s.spindles := rfl
@[simp] theorem State.modLength_lu : (s.modLength sd f).lu = { s.lu with sides := s.lu.sides.mod sd f } := rfl
@[simp] theorem State.modLength_pd : (s.modLength sd f).pd = s.pd := rfl
@[simp] theorem State.modLength_dc : (s.modLength sd f).dc = s.dc := rfl
@[simp] theorem State.modLength_cc : (s.modLength sd f).cc = s.cc := rfl
@[simp] theorem State.modLength_bobbins : (s.modLength sd f).bobbins = s.bobbins := rfl
@[simp] theorem State.modLength_dcu : (s.modLength sd f).dcu = s.dcu := rfl
@[simp] theorem State.modLength_sau : (s.modLength sd f).sau = s.sau := rfl
@[simp] theorem State.modLength_sbm : (s.modLength sd f).sbm = s.sbm := rfl
@[simp] theorem State.modLength_mli : (s.modLength sd f).mli = s.mli := rfl
@[simp] theorem State.modLength_pending : (s.modLength sd f).pending = s.pending := rfl
end modLength

section setZone
variable (c : Nat) (z : Zone)
@[simp] theorem State.setZone_thresholds : (s.setZone c z).thresholds = s.thresholds := rfl
@[simp] theorem State.setZone_rail : (s.setZone c z).rail = s.rail := rfl
@[simp] theorem State.setZone_spindles : (s.setZone c z).spindles = s.spindles := rfl
@[simp] theorem State.setZone_lu : (s.setZone c z).lu = s.lu := rfl
@[simp] theorem State.setZone_pd : (s.setZone c z).pd = { s.pd with zones := tset s.pd.zones c z } := rfl
@[simp] theorem State.setZone_dc : (s.setZone c z).dc = s.dc := rfl
@[simp] theorem State.setZone_cc : (s.setZone c z).cc = s.cc := rfl
@[simp] theorem State.setZone_bobbins : (s.setZone c z).bobbins = s.bobbins := rfl
@[simp] theorem State.setZone_dcu : (s.setZone c z).dcu = s.dcu := rfl
@[simp] theorem State.setZone_sau : (s.setZone c z).sau = s.sau := rfl
@[simp] theorem State.setZone_sbm : (s.setZone c z).sbm = s.sbm := rfl
@[simp] theorem State.setZone_mli : (s.setZone c z).mli = s.mli := rfl
@[simp] theorem State.setZone_pending : (s.setZone c z).pending = s.pending := rfl
end setZone

section setChannel
variable (c : Nat) (x : Channel)
@[simp] theorem State.setChannel_thresholds : (s.setChannel c x).thresholds = s.thresholds := rfl
@[simp] theorem State.setChannel_rail : (s.setChannel c x).rail = s.rail := rfl
@[simp] theorem State.setChannel_spindles : (s.setChannel c x).spindles = s.spindles := rfl
@[simp] theorem State.setChannel_lu : (s.setChannel c x).lu = s.lu := rfl
@[simp] theorem State.setChannel_pd : (s.setChannel c x).pd = { s.pd with channels := tset s.pd.channels c x } := rfl
@[simp] theorem State.setChannel_dc : (s.setChannel c x).dc = s.dc := rfl
@[simp] theorem State.setChannel_cc : (s.setChannel c x).cc = s.cc := rfl
@[simp] theorem State.setChannel_bobbins : (s.setChannel c x).bobbins = s.bobbins := rfl
@[simp] theorem State.setChannel_dcu : (s.setChannel c x).dcu = s.dcu := rfl
@[simp] theorem State.setChannel_sau : (s.setChannel c x).sau = s.sau := rfl
@[simp] theorem State.setChannel_sbm : (s.setChannel c x).sbm = s.sbm := rfl
@[simp] theorem State.setChannel_mli : (s.setChannel c x).mli = s.mli := rfl
@[simp] theorem State.setChannel_pending : (s.setChannel c x).pending = s.pending := rfl
end setChannel

section modChannel
variable (c : Nat) (f : Channel → Channel)
@[simp] theorem State.modChannel_thresholds : (s.modChannel c f).thresholds = s.thresholds := rfl
@[simp] theorem State.modChannel_rail : (s.modChannel c f).rail = s.rail := rfl
@[simp] theorem State.modChannel_spindles : (s.modChannel c f).spindles = s.spindles := rfl
@[simp] theorem State.modChannel_lu : (s.modChannel c f).lu = s.lu := rfl
@[simp] theorem State.modChannel_pd : (s.modChannel c f).pd = { s.pd with channels := tset s.pd.channels c (f (s.channel c)) } := rfl
@[simp] theorem State.modChannel_dc : (s.modChannel c f).dc = s.dc := rfl
@[simp] theorem State.modChannel_cc : (s.modChannel c f).cc = s.cc := rfl
@[simp] theorem State.modChannel_bobbins : (s.modChannel c f).bobbins = s.bobbins := rfl
@[simp] theorem State.modChannel_dcu : (s.modChannel c f).dcu = s.dcu := rfl
@[simp] theorem State.modChannel_sau : (s.modChannel c f).sau = s.sau := rfl
@[simp] theorem State.modChannel_sbm : (s.modChannel c f).sbm = s.sbm := rfl
@[simp] theorem State.modChannel_mli : (s.modChannel c f).mli = s.mli := rfl
@[simp] theorem State.modChannel_pending : (s.modChannel c f).pending = s.pending := rfl
end modChannel

section setQueue
variable (c : Nat) (q : List Nat)
@[simp] theorem State.setQueue_thresholds : (s.setQueue c q).thresholds = s.thresholds := rfl
@[simp] theorem State.setQueue_rail : (s.setQueue c q).rail = s.rail := rfl
@[simp] theorem State.setQueue_spindles : (s.setQueue c q).spindles = s.spindles := rfl
@[simp] theorem State.setQueue_lu : (s.setQueue c q).lu = s.lu := rfl
@[simp] theorem State.setQueue_pd : (s.setQueue c q).pd = { s.pd with queues := tset s.pd.queues c q } := rfl
@[simp] theorem State.setQueue_dc : (s.setQueue c q).dc = s.dc := rfl
@[simp] theorem State.setQueue_cc : (s.setQueue c q).cc = s.cc := rfl
@[simp] theorem State.setQueue_bobbins : (s.setQueue c q).bobbins = s.bobbins := rfl
@[simp] theorem State.setQueue_dcu : (s.setQueue c q).dcu = s.dcu := rfl
@[simp] theorem State.setQueue_sau : (s.setQueue c q).sau = s.sau := rfl
@[simp] theorem State.setQueue_sbm : (s.setQueue c q).sbm = s.sbm := rfl
@[simp] theorem State.setQueue_mli : (s.setQueue c q).mli = s.mli := rfl
@[simp] theorem State.setQueue_pending : (s.setQueue c q).pending = s.pending := rfl
end setQueue

section modDoff
variable (f : DoffUnit → DoffUnit)
@[simp] theorem State.modDoff_thresholds : (s.modDoff f).thresholds = s.thresholds := rfl
@[simp] theorem State.modDoff_rail : (s.modDoff f).rail = s.rail := rfl
@[simp] theorem State.modDoff_spindles : (s.modDoff f).spindles = s.spindles := rfl
@[simp] theorem State.modDoff_lu : (s.modDoff f).lu = s.lu := rfl
@[simp] theorem State.modDoff_pd : (s.modDoff f).pd = s.pd := rfl
@[simp] theorem State.modDoff_dc : (s.modDoff f).dc = f s.dc := rfl
@[simp] theorem State.modDoff_cc : (s.modDoff f).cc = s.cc := rfl
@[simp] theorem State.modDoff_bobbins : (s.modDoff f).bobbins = s.bobbins := rfl
@[simp] theorem State.modDoff_dcu : (s.modDoff f).dcu = s.dcu := rfl
@[simp] theorem State.modDoff_sau : (s.modDoff f).sau = s.sau := rfl
@[simp] theorem State.modDoff_sbm : (s.modDoff f).sbm = s.sbm := rfl
@[simp] theorem State.modDoff_mli : (s.modDoff f).mli = s.mli := rfl
@[simp] theorem State.modDoff_pending : (s.modDoff f).pending = s.pending := rfl
end modDoff

section setSection
variable (r : Nat) (x : Section)
@[simp] theorem State.setSection_thresholds : (s.setSection r x).thresholds = s.thresholds := rfl
@[simp] theorem State.setSection_rail : (s.setSection r x).rail = s.rail := rfl
@[simp] theorem State.setSection_spindles : (s.setSection r x).spindles = s.spindles := rfl
@[simp] theorem State.setSection_lu : (s.setSection r x).lu = s.lu := rfl
@[simp] theorem State.setSection_pd : (s.setSection r x).pd = s.pd := rfl
@[simp] theorem State.setSection_dc : (s.setSection r x).dc = s.dc := rfl
@[simp] theorem State.setSection_cc : (s.setSection r x).cc = { s.cc with sections := tset s.cc.sections r x } := rfl
@[simp] theorem State.setSection_bobbins : (s.setSection r x).bobbins = s.bobbins := rfl
@[simp] theorem State.setSection_dcu : (s.setSection r x).dcu = s.dcu := rfl
@[simp] theorem State.setSection_sau : (s.setSection r x).sau = s.sau := rfl
@[simp] theorem State.setSection_sbm : (s.setSection r x).sbm = s.sbm := rfl
@[simp] theorem State.setSection_mli : (s.setSection r x).mli = s.mli := rfl
@[simp] theorem State.setSection_pending : (s.setSection r x).pending = s.pending := rfl
end setSection

section modSection
variable (r : Nat) (f : Section → Section)
@[simp] theorem State.modSection_thresholds : (s.modSection r f).thresholds = s.thresholds := rfl
@[simp] theorem State.modSection_rail : (s.modSection r f).rail = s.rail := rfl
@[simp] theorem State.modSection_spindles : (s.modSection r f).spindles = s.spindles := rfl
@[simp] theorem State.modSection_lu : (s.modSection r f).lu = s.lu := rfl
@[simp] theorem State.modSection_pd : (s.modSection r f).pd = s.pd := rfl
@[simp] theorem State.modSection_dc : (s.modSection r f).dc = s.dc := rfl
@[simp] theorem State.modSection_cc : (s.modSection r f).cc = { s.cc with sections := tset s.cc.sections r (f (s.creelSection r)) } := rfl
@[simp] theorem State.modSection_bobbins : (s.modSection r f).bobbins = s.bobbins := rfl
@[simp] theorem State.modSection_dcu : (s.modSection r f).dcu = s.dcu := rfl
@[simp] theorem State.modSection_sau : (s.modSection r f).sau = s.sau := rfl
@[simp] theorem State.modSection_sbm : (s.modSection r f).sbm = s.sbm := rfl
@[simp] theorem State.modSection_mli : (s.modSection r f).mli = s.mli := rfl
@[simp] theorem State.modSection_pending : (s.modSection r f).pending = s.pending := rfl
end modSection

section modCreel
variable (f : CreelUnit → CreelUnit)
@[simp] theorem State.modCreel_thresholds : (s.modCreel f).thresholds = s.thresholds := rfl
@[simp] theorem State.modCreel_rail : (s.modCreel f).rail = s.rail := rfl
@[simp] theorem State.modCreel_spindles : (s.modCreel f).spindles = s.spindles := rfl
@[simp] theorem State.modCreel_lu : (s.modCreel f).lu = s.lu := rfl
@[simp] theorem State.modCreel_pd : (s.modCreel f).pd = s.pd := rfl
@[simp] theorem State.modCreel_dc : (s.modCreel f).dc = s.dc := rfl
@[simp] theorem State.modCreel_cc : (s.modCreel f).cc = f s.cc := rfl
@[simp] theorem State.modCreel_bobbins : (s.modCreel f).bobbins = s.bobbins := rfl
@[simp] theorem State.modCreel_dcu : (s.modCreel f).dcu = s.dcu := rfl
@[simp] theorem State.modCreel_sau : (s.modCreel f).sau = s.sau := rfl
@[simp] theorem State.modCreel_sbm : (s.modCreel f).sbm = s.sbm := rfl
@[simp] theorem State.modCreel_mli : (s.modCreel f).mli = s.mli := rfl
@[simp] theorem State.modCreel_pending : (s.modCreel f).pending = s.pending := rfl
end modCreel

section setRow
variable (n : RowName) (r : CeilingRow)
@[simp] theorem State.setRow_thresholds : (s.setRow n r).thresholds = s.thresholds := rfl
@[simp] theorem State.setRow_rail : (s.setRow n r).rail = s.rail := rfl
@[simp] theorem State.setRow_spindles : (s.setRow n r).spindles = s.spindles := rfl
@[simp] theorem State.setRow_lu : (s.setRow n r).lu = s.lu := rfl
@[simp] theorem State.setRow_pd : (s.setRow n r).pd = s.pd := rfl
@[simp] theorem State.setRow_dc : (s.setRow n r).dc = s.dc := rfl
@[simp] theorem State.setRow_cc : (s.setRow n r).cc = s.cc := rfl
@[simp] theorem State.setRow_bobbins : (s.setRow n r).bobbins = s.bobbins := rfl
@[simp] theorem State.setRow_dcu : (s.setRow n r).dcu = { s.dcu with rows := s.dcu.rows.set n r } := rfl
@[simp] theorem State.setRow_sau : (s.setRow n r).sau = s.sau := rfl
@[simp] theorem State.setRow_sbm : (s.setRow n r).sbm = s.sbm := rfl
@[simp] theorem State.setRow_mli : (s.setRow n r).mli = s.mli := rfl
@[simp] theorem State.setRow_pending : (s.setRow n r).pending = s.pending := rfl
end setRow

section modDcu
variable (f : CeilingUnit → CeilingUnit)
@[simp] theorem State.modDcu_thresholds : (s.modDcu f).thresholds = s.thresholds := rfl
@[simp] theorem State.modDcu_rail : (s.modDcu f).rail = s.rail := rfl
@[simp] theorem State.modDcu_spindles : (s.modDcu f).spindles = s.spindles := rfl
@[simp] theorem State.modDcu_lu : (s.modDcu f).lu = s.lu := rfl
@[simp] theorem State.modDcu_pd : (s.modDcu f).pd = s.pd := rfl
@[simp] theorem State.modDcu_dc : (s.modDcu f).dc = s.dc := rfl
@[simp] theorem State.modDcu_cc : (s.modDcu f).cc = s.cc := rfl
@[simp] theorem State.modDcu_bobbins : (s.modDcu f).bobbins = s.bobbins := rfl
@[simp] theorem State.modDcu_dcu : (s.modDcu f).dcu = f s.dcu := rfl
@[simp] theorem State.modDcu_sau : (s.modDcu f).sau = s.sau := rfl
@[simp] theorem State.modDcu_sbm : (s.modDcu f).sbm = s.sbm := rfl
@[simp] theorem State.modDcu_mli : (s.modDcu f).mli = s.mli := rfl
@[simp] theorem State.modDcu_pending : (s.modDcu f).pending = s.pending := rfl
end modDcu

section modShift
variable (sd : Side) (f : ShiftSide → ShiftSide)
@[simp] theorem State.modShift_thresholds : (s.modShift sd f).thresholds = s.thresholds := rfl
@[simp] theorem State.modShift_rail : (s.modShift sd f).rail = s.rail := rfl
@[simp] theorem State.modShift_spindles : (s.modShift sd f).spindles = s.spindles := rfl
@[simp] theorem State.modShift_lu : (s.modShift sd f).lu = s.lu := rfl
@[simp] theorem State.modShift_pd : (s.modShift sd f).pd = s.pd := rfl
@[simp] theorem State.modShift_dc : (s.modShift sd f).dc = s.dc := rfl
@[simp] theorem State.modShift_cc : (s.modShift sd f).cc = s.cc := rfl
@[simp] theorem State.modShift_bobbins : (s.modShift sd f).bobbins = s.bobbins := rfl
@[simp] theorem State.modShift_dcu : (s.modShift sd f).dcu = s.dcu := rfl
@[simp] theorem State.modShift_sau : (s.modShift sd f).sau = { s.sau with sides := s.sau.sides.mod sd f } := rfl
@[simp] theorem State.modShift_sbm : (s.modShift sd f).sbm = s.sbm := rfl
@[simp] theorem State.modShift_mli : (s.modShift sd f).mli = s.mli := rfl
@[simp] theorem State.modShift_pending : (s.modShift sd f).pending = s.pending := rfl
end modShift

section modRecord
variable (sd : Side) (f : ShiftRecord → ShiftRecord)
@[simp] theorem State.modRecord_thresholds : (s.modRecord sd f).thresholds = s.thresholds := rfl
@[simp] theorem State.modRecord_rail : (s.modRecord sd f).rail = s.rail := rfl
@[simp] theorem State.modRecord_spindles : (s.modRecord sd f).spindles = s.spindles := rfl
@[simp] theorem State.modRecord_lu : (s.modRecord sd f).lu = s.lu := rfl
@[simp] theorem State.modRecord_pd : (s.modRecord sd f).pd = s.pd := rfl
@[simp] theorem State.modRecord_dc : (s.modRecord sd f).dc = s.dc := rfl
@[simp] theorem State.modRecord_cc : (s.modRecord sd f).cc = s.cc := rfl
@[simp] theorem State.modRecord_bobbins : (s.modRecord sd f).bobbins = s.bobbins := rfl
@[simp] theorem State.modRecord_dcu : (s.modRecord sd f).dcu = s.dcu := rfl
@[simp] theorem State.modRecord_sau : (s.modRecord sd f).sau = { s.sau with sides := s.sau.sides.mod sd fun x => { x with current := f x.current } } := rfl
@[simp] theorem State.modRecord_sbm : (s.modRecord sd f).sbm = s.sbm := rfl
@[simp] theorem State.modRecord_mli : (s.modRecord sd f).mli = s.mli := rfl
@[simp] theorem State.modRecord_pending : (s.modRecord sd f).pending = s.pending := rfl
end modRecord

section modSbm
variable (f : BusMaster → BusMaster)
@[simp] theorem State.modSbm_thresholds : (s.modSbm f).thresholds = s.thresholds := rfl
@[simp] theorem State.modSbm_rail : (s.modSbm f).rail = s.rail := rfl
@[simp] theorem State.modSbm_spindles : (s.modSbm f).spindles = s.spindles := rfl
@[simp] theorem State.modSbm_lu : (s.modSbm f).lu = s.lu := rfl
@[simp] theorem State.modSbm_pd : (s.modSbm f).pd = s.pd := rfl
@[simp] theorem State.modSbm_dc : (s.modSbm f).dc = s.dc := rfl
@[simp] theorem State.modSbm_cc : (s.modSbm f).cc = s.cc := rfl
@[simp] theorem State.modSbm_bobbins : (s.modSbm f).bobbins = s.bobbins := rfl
@[simp] theorem State.modSbm_dcu : (s.modSbm f).dcu = s.dcu := rfl
@[simp] theorem State.modSbm_sau : (s.modSbm f).sau = s.sau := rfl
@[simp] theorem State.modSbm_sbm : (s.modSbm f).sbm = f s.sbm := rfl
@[simp] theorem State.modSbm_mli : (s.modSbm f).mli = s.mli := rfl
@[simp] theorem State.modSbm_pending : (s.modSbm f).pending = s.pending := rfl
end modSbm

section modMli
variable (f : MillLine → MillLine)
@[simp] theorem State.modMli_thresholds : (s.modMli f).thresholds = s.thresholds := rfl
@[simp] theorem State.modMli_rail : (s.modMli f).rail = s.rail := rfl
@[simp] theorem State.modMli_spindles : (s.modMli f).spindles = s.spindles := rfl
@[simp] theorem State.modMli_lu : (s.modMli f).lu = s.lu := rfl
@[simp] theorem State.modMli_pd : (s.modMli f).pd = s.pd := rfl
@[simp] theorem State.modMli_dc : (s.modMli f).dc = s.dc := rfl
@[simp] theorem State.modMli_cc : (s.modMli f).cc = s.cc := rfl
@[simp] theorem State.modMli_bobbins : (s.modMli f).bobbins = s.bobbins := rfl
@[simp] theorem State.modMli_dcu : (s.modMli f).dcu = s.dcu := rfl
@[simp] theorem State.modMli_sau : (s.modMli f).sau = s.sau := rfl
@[simp] theorem State.modMli_sbm : (s.modMli f).sbm = s.sbm := rfl
@[simp] theorem State.modMli_mli : (s.modMli f).mli = f s.mli := rfl
@[simp] theorem State.modMli_pending : (s.modMli f).pending = s.pending := rfl
end modMli

section setAlert
variable (c : AlertCause) (r : AlertRecord)
@[simp] theorem State.setAlert_thresholds : (s.setAlert c r).thresholds = s.thresholds := rfl
@[simp] theorem State.setAlert_rail : (s.setAlert c r).rail = s.rail := rfl
@[simp] theorem State.setAlert_spindles : (s.setAlert c r).spindles = s.spindles := rfl
@[simp] theorem State.setAlert_lu : (s.setAlert c r).lu = s.lu := rfl
@[simp] theorem State.setAlert_pd : (s.setAlert c r).pd = s.pd := rfl
@[simp] theorem State.setAlert_dc : (s.setAlert c r).dc = s.dc := rfl
@[simp] theorem State.setAlert_cc : (s.setAlert c r).cc = s.cc := rfl
@[simp] theorem State.setAlert_bobbins : (s.setAlert c r).bobbins = s.bobbins := rfl
@[simp] theorem State.setAlert_dcu : (s.setAlert c r).dcu = s.dcu := rfl
@[simp] theorem State.setAlert_sau : (s.setAlert c r).sau = s.sau := rfl
@[simp] theorem State.setAlert_sbm : (s.setAlert c r).sbm = s.sbm := rfl
@[simp] theorem State.setAlert_mli : (s.setAlert c r).mli = { s.mli with alerts := tset s.mli.alerts (c.code - 1) r } := rfl
@[simp] theorem State.setAlert_pending : (s.setAlert c r).pending = s.pending := rfl
end setAlert

section setUnit
variable (a : Nat) (u : BusUnit) (f : BusUnit → BusUnit)
@[simp] theorem State.setUnit_thresholds : (s.setUnit a u).thresholds = s.thresholds := by
  unfold State.setUnit; split <;> rfl
@[simp] theorem State.setUnit_rail : (s.setUnit a u).rail = s.rail := by
  unfold State.setUnit; split <;> rfl
@[simp] theorem State.setUnit_spindles : (s.setUnit a u).spindles = s.spindles := by
  unfold State.setUnit; split <;> rfl
@[simp] theorem State.setUnit_lu : (s.setUnit a u).lu = s.lu := by
  unfold State.setUnit; split <;> rfl
@[simp] theorem State.setUnit_pd : (s.setUnit a u).pd = s.pd := by
  unfold State.setUnit; split <;> rfl
@[simp] theorem State.setUnit_dc : (s.setUnit a u).dc = s.dc := by
  unfold State.setUnit; split <;> rfl
@[simp] theorem State.setUnit_cc : (s.setUnit a u).cc = s.cc := by
  unfold State.setUnit; split <;> rfl
@[simp] theorem State.setUnit_bobbins : (s.setUnit a u).bobbins = s.bobbins := by
  unfold State.setUnit; split <;> rfl
@[simp] theorem State.setUnit_dcu : (s.setUnit a u).dcu = s.dcu := by
  unfold State.setUnit; split <;> rfl
@[simp] theorem State.setUnit_sau : (s.setUnit a u).sau = s.sau := by
  unfold State.setUnit; split <;> rfl
@[simp] theorem State.setUnit_mli : (s.setUnit a u).mli = s.mli := by
  unfold State.setUnit; split <;> rfl
@[simp] theorem State.setUnit_pending : (s.setUnit a u).pending = s.pending := by
  unfold State.setUnit; split <;> rfl
@[simp] theorem State.modUnit_thresholds : (s.modUnit a f).thresholds = s.thresholds := State.setUnit_thresholds s a _
@[simp] theorem State.modUnit_rail : (s.modUnit a f).rail = s.rail := State.setUnit_rail s a _
@[simp] theorem State.modUnit_spindles : (s.modUnit a f).spindles = s.spindles := State.setUnit_spindles s a _
@[simp] theorem State.modUnit_lu : (s.modUnit a f).lu = s.lu := State.setUnit_lu s a _
@[simp] theorem State.modUnit_pd : (s.modUnit a f).pd = s.pd := State.setUnit_pd s a _
@[simp] theorem State.modUnit_dc : (s.modUnit a f).dc = s.dc := State.setUnit_dc s a _
@[simp] theorem State.modUnit_cc : (s.modUnit a f).cc = s.cc := State.setUnit_cc s a _
@[simp] theorem State.modUnit_bobbins : (s.modUnit a f).bobbins = s.bobbins := State.setUnit_bobbins s a _
@[simp] theorem State.modUnit_dcu : (s.modUnit a f).dcu = s.dcu := State.setUnit_dcu s a _
@[simp] theorem State.modUnit_sau : (s.modUnit a f).sau = s.sau := State.setUnit_sau s a _
@[simp] theorem State.modUnit_mli : (s.modUnit a f).mli = s.mli := State.setUnit_mli s a _
@[simp] theorem State.modUnit_pending : (s.modUnit a f).pending = s.pending := State.setUnit_pending s a _
end setUnit
/-! ### Tables by position -/

section tables
variable {α β : Type} {n : Nat}

theorem tget_of_lt (d : α) (v : Vector α n) {i : Nat} (h : i < n) : tget d v i = v[i] := by simp [tget, h]

theorem tget_of_le (d : α) (v : Vector α n) {i : Nat} (h : n ≤ i) : tget d v i = d := by
  simp [tget, Nat.not_lt.mpr h]

/-- Reading the entry just written. -/
theorem tget_tset_same (d : α) (v : Vector α n) {i : Nat} (x : α) (h : i < n) : tget d (tset v i x) i = x := by
  simp [tget, tset, h]

/-- A write leaves every other entry. -/
theorem tget_tset_other (d : α) (v : Vector α n) {i j : Nat} (x : α) (h : i ≠ j) :
    tget d (tset v i x) j = tget d v j := by
  by_cases hj : j < n
  · by_cases hi : i < n
    · simp [tget, tset, hi, hj, h]
    · simp [tget, tset, hi]
  · simp [tget, hj]

/-- Reading any entry after a write. -/
theorem tget_tset (d : α) (v : Vector α n) (i j : Nat) (x : α) :
    tget d (tset v i x) j = if i = j ∧ j < n then x else tget d v j := by
  by_cases h : i = j
  · subst h
    by_cases hn : i < n
    · simp [hn, tget_tset_same]
    · simp [hn, tget]
  · simp [h, tget_tset_other d v x h]

/-- Writing back what an entry holds changes nothing. -/
theorem tset_tget (d : α) (v : Vector α n) (i : Nat) : tset v i (tget d v i) = v := by
  unfold tset tget
  split <;> simp_all

theorem mapFrom_getElem (f : Nat → α → β) (l : List α) (k i : Nat) (h : i < (mapFrom f k l).length) :
    (mapFrom f k l)[i] = f (k + i) (l[i]'(by simpa [mapFrom_length] using h)) := by
  induction l generalizing k i with
  | nil => simp [mapFrom] at h
  | cons x xs ih =>
    cases i with
    | zero => simp [mapFrom]
    | succ i => simp [mapFrom, ih, Nat.add_comm, Nat.add_left_comm]

/-- Entry `i` of a mapped table. -/
theorem tget_tmap (d : β) (e : α) (f : Nat → α → β) (v : Vector α n) {i : Nat} (h : i < n) :
    tget d (tmap f v) i = f i (tget e v i) := by
  simp [tget, tmap, h, mapFrom_getElem]

/-- A table mapped by a function that keeps each entry is itself. -/
theorem tmap_eq_self (f : Nat → α → α) (v : Vector α n) (h : ∀ i (hi : i < n), f i v[i] = v[i]) : tmap f v = v := by
  ext i hi
  simp [tmap, mapFrom_getElem, h i hi]

end tables

/-! ### The two sides -/

section sides
variable {α : Type} (x : PerSide α) (sd : Side) (v : α) (f : α → α)

@[simp] theorem PerSide.get_set_same : (x.set sd v).get sd = v := by cases sd <;> rfl
@[simp] theorem PerSide.get_set_other : (x.set sd v).get sd.other = x.get sd.other := by cases sd <;> rfl
@[simp] theorem PerSide.get_mod_same : (x.mod sd f).get sd = f (x.get sd) := by simp [PerSide.mod]
@[simp] theorem PerSide.get_mod_other : (x.mod sd f).get sd.other = x.get sd.other := by simp [PerSide.mod]

/-- Reading either side after a write. -/
theorem PerSide.get_set (e : Side) : (x.set sd v).get e = if e = sd then v else x.get e := by
  cases sd <;> cases e <;> rfl

theorem PerSide.get_mod (e : Side) : (x.mod sd f).get e = if e = sd then f (x.get sd) else x.get e := by
  simp [PerSide.mod, PerSide.get_set]

end sides

@[simp] theorem State.railOf_modRail_same (sd : Side) (f : Rail → Rail) : (s.modRail sd f).railOf sd = f (s.railOf sd) := by
  simp [State.railOf]

@[simp] theorem State.railOf_modRail_other (sd : Side) (f : Rail → Rail) :
    (s.modRail sd f).railOf sd.other = s.railOf sd.other := by
  simp [State.railOf]

/-! ### Records read after a write -/

/-- Reading any spindle after one is written. -/
theorem State.spindle_setSpindle (p q : Nat) (r : Spindle) :
    (s.setSpindle p r).spindle q = if p = q ∧ q < 2048 then r else s.spindle q := by
  simp [State.spindle, tget_tset]

theorem State.spindle_modSpindle (p q : Nat) (f : Spindle → Spindle) :
    (s.modSpindle p f).spindle q = if p = q ∧ q < 2048 then f (s.spindle p) else s.spindle q :=
  State.spindle_setSpindle s p q _

theorem State.bobbin_setBobbin (p q : Nat) (b : Bobbin) :
    (s.setBobbin p b).bobbin q = if p = q ∧ q < 2048 then b else s.bobbin q := by
  simp [State.bobbin, tget_tset]

theorem State.channel_setChannel (c d : Nat) (x : Channel) :
    (s.setChannel c x).channel d = if c = d ∧ d < 4 then x else s.channel d := by
  simp [State.channel, tget_tset]

theorem State.channel_modChannel (c d : Nat) (f : Channel → Channel) :
    (s.modChannel c f).channel d = if c = d ∧ d < 4 then f (s.channel c) else s.channel d :=
  State.channel_setChannel s c d _

theorem State.breakQueue_setQueue (c d : Nat) (q : List Nat) :
    (s.setQueue c q).breakQueue d = if c = d ∧ d < 4 then q else s.breakQueue d := by
  simp [State.breakQueue, tget_tset]

theorem State.creelSection_setSection (r q : Nat) (x : Section) :
    (s.setSection r x).creelSection q = if r = q ∧ q < 64 then x else s.creelSection q := by
  simp [State.creelSection, tget_tset]

theorem State.creelSection_modSection (r q : Nat) (f : Section → Section) :
    (s.modSection r f).creelSection q = if r = q ∧ q < 64 then f (s.creelSection r) else s.creelSection q :=
  State.creelSection_setSection s r q _

/-- Reading any unit after one is written. -/
theorem State.unit_setUnit (a b : Nat) (u : BusUnit) :
    (s.setUnit a u).unit b = if a = b ∧ 1 ≤ b ∧ b ≤ 7 then u else s.unit b := by
  unfold State.setUnit State.unit
  by_cases ha : a = 0
  · subst ha; by_cases hb : b = 0 <;> simp [hb] <;> omega
  · by_cases hb : b = 0
    · simp [ha, hb]
    · by_cases h : a = b
      · subst h
        by_cases h7 : a ≤ 7
        · have h1 : 1 ≤ a := by omega
          have h2 : a - 1 < 7 := by omega
          simp [ha, h7, tget_tset, h1, h2]
        · have h2 : ¬ a - 1 < 7 := by omega
          simp [ha, h7, tget_tset, h2]
      · have h1 : a - 1 ≠ b - 1 := by omega
        simp [ha, hb, h, tget_tset, h1]

theorem State.unit_modUnit (a b : Nat) (f : BusUnit → BusUnit) :
    (s.modUnit a f).unit b = if a = b ∧ 1 ≤ b ∧ b ≤ 7 then f (s.unit a) else s.unit b :=
  State.unit_setUnit s a b _

/-- Reading any condition row after one is written. -/
theorem CeilingRows.get_set (x : CeilingRows) (n m : RowName) (r : CeilingRow) :
    (x.set n r).get m = if m = n then r else x.get m := by
  cases n <;> cases m <;> rfl

theorem State.ceilingRow_setRow (n m : RowName) (r : CeilingRow) :
    (s.setRow n r).ceilingRow m = if m = n then r else s.ceilingRow m := CeilingRows.get_set _ n m r

theorem AlertCause.code_injective (c d : AlertCause) (h : c.code = d.code) : c = d := by
  cases c <;> cases d <;> first | rfl | simp [AlertCause.code] at h

theorem AlertCause.code_bounds (c : AlertCause) : 1 ≤ c.code ∧ c.code ≤ 11 := by cases c <;> decide

/-- Reading any alert record after one is written. -/
theorem State.alert_setAlert (c d : AlertCause) (r : AlertRecord) :
    (s.setAlert c r).alert d = if c = d then r else s.alert d := by
  unfold State.alert
  have hc := c.code_bounds
  have hd := d.code_bounds
  simp only [State.setAlert_mli, tget_tset]
  by_cases h : c = d
  · subst h; simp; omega
  · have : ¬ c.code - 1 = d.code - 1 := fun e => h (c.code_injective d (by omega))
    simp [h, this]

end Sys2Proof.Machine
end

