-- ==== Sys2Proof/Laws/Frames.lean ====
section
/-! SUPPORT. Frames: for each shared operation, one lemma that says once which pieces of the state it may change
(`<operation>_changes`). A later frame cites these and unfolds no operation. -/

namespace Sys2Proof.Machine

/-! ### Composing frames -/

/-- Nothing changes. -/
theorem State.changesOnly.refl (ps : List Part) (s : State) : s.changesOnly ps s := by
  intro p _; cases p <;> simp [State.agrees]

theorem State.agrees.trans {s t u : State} {p : Part} (h : s.agrees t p) (k : t.agrees u p) : s.agrees u p := by
  cases p <;> simp_all [State.agrees]

/-- A frame may be widened. -/
theorem State.changesOnly.mono {ps qs : List Part} {s t : State} (h : s.changesOnly ps t) (hp : ps ⊆ qs) :
    s.changesOnly qs t := fun p hq => h p fun k => hq (hp k)

theorem State.changesOnly.trans {ps : List Part} {s t u : State} (h : s.changesOnly ps t) (k : t.changesOnly ps u) :
    s.changesOnly ps u := fun p hp => (h p hp).trans (k p hp)

/-- One more operation, whose own frame lies within the frame. -/
theorem State.changesOnly.via {ps qs : List Part} {s t u : State} (h : s.changesOnly ps t) (k : t.changesOnly qs u)
    (hq : qs ⊆ ps) : s.changesOnly ps u := h.trans (k.mono hq)

/-- A run of operations, each within the frame. -/
theorem State.changesOnly.foldl {α : Type} {ps : List Part} {s t : State} {l : List α} {f : State → α → State}
    (hf : ∀ (x : State) (a : α), x.changesOnly ps (f x a)) (h : s.changesOnly ps t) : s.changesOnly ps (l.foldl f t) := by
  induction l generalizing t with
  | nil => exact h
  | cons a l ih => exact ih (h.trans (hf t a))

/-! ### The named updates -/

section updates
variable (s : State)

theorem State.modRail_changes (sd : Side) (f : Rail → Rail) : s.changesOnly [.rail sd] (s.modRail sd f) := by
  intro p hp
  cases p with
  | rail e =>
    have he : e ≠ sd := fun h => hp (by simp [h])
    simp [State.agrees, State.railOf, PerSide.get_mod, he]
  | _ => first | rfl | exact ⟨rfl, rfl⟩ | simp [State.agrees]

theorem State.modLength_changes (sd : Side) (f : LengthSide → LengthSide) :
    s.changesOnly [.length sd] (s.modLength sd f) := by
  intro p hp
  cases p with
  | length e =>
    have he : e ≠ sd := fun h => hp (by simp [h])
    simp [State.agrees, State.lengthSide, PerSide.get_mod, he]
  | _ => first | rfl | exact ⟨rfl, rfl⟩ | simp [State.agrees]

theorem State.setSpindle_changes (p : Nat) (r : Spindle) : s.changesOnly [.spindles] (s.setSpindle p r) := by
  intro p hp; cases p <;> simp [State.agrees, State.railOf, State.lengthSide] at hp ⊢
theorem State.modSpindle_changes (p : Nat) (f : Spindle → Spindle) : s.changesOnly [.spindles] (s.modSpindle p f) :=
  s.setSpindle_changes p _
theorem State.setBobbin_changes (p : Nat) (r : Bobbin) : s.changesOnly [.bobbins] (s.setBobbin p r) := by
  intro p hp; cases p <;> simp [State.agrees, State.railOf, State.lengthSide] at hp ⊢
theorem State.setZone_changes (c : Nat) (z : Zone) : s.changesOnly [.zones] (s.setZone c z) := by
  intro p hp; cases p <;> simp [State.agrees, State.railOf, State.lengthSide] at hp ⊢
theorem State.setChannel_changes (c : Nat) (x : Channel) : s.changesOnly [.channels] (s.setChannel c x) := by
  intro p hp; cases p <;> simp [State.agrees, State.railOf, State.lengthSide] at hp ⊢
theorem State.modChannel_changes (c : Nat) (f : Channel → Channel) : s.changesOnly [.channels] (s.modChannel c f) :=
  s.setChannel_changes c _
theorem State.setQueue_changes (c : Nat) (q : List Nat) : s.changesOnly [.queues] (s.setQueue c q) := by
  intro p hp; cases p <;> simp [State.agrees, State.railOf, State.lengthSide] at hp ⊢
theorem State.modDoff_changes (f : DoffUnit → DoffUnit) : s.changesOnly [.doff] (s.modDoff f) := by
  intro p hp; cases p <;> simp [State.agrees, State.railOf, State.lengthSide] at hp ⊢
theorem State.setSection_changes (r : Nat) (x : Section) : s.changesOnly [.creel] (s.setSection r x) := by
  intro p hp; cases p <;> simp [State.agrees, State.railOf, State.lengthSide] at hp ⊢
theorem State.modSection_changes (r : Nat) (f : Section → Section) : s.changesOnly [.creel] (s.modSection r f) :=
  s.setSection_changes r _
theorem State.modCreel_changes (f : CreelUnit → CreelUnit) : s.changesOnly [.creel] (s.modCreel f) := by
  intro p hp; cases p <;> simp [State.agrees, State.railOf, State.lengthSide] at hp ⊢
theorem State.setRow_changes (n : RowName) (r : CeilingRow) : s.changesOnly [.rows] (s.setRow n r) := by
  intro p hp; cases p <;> simp [State.agrees, State.railOf, State.lengthSide] at hp ⊢
theorem State.modShift_changes (sd : Side) (f : ShiftSide → ShiftSide) : s.changesOnly [.shift] (s.modShift sd f) := by
  intro p hp; cases p <;> simp [State.agrees, State.railOf, State.lengthSide] at hp ⊢
theorem State.modRecord_changes (sd : Side) (f : ShiftRecord → ShiftRecord) :
    s.changesOnly [.shift] (s.modRecord sd f) := s.modShift_changes sd _
theorem State.setUnit_changes (a : Nat) (u : BusUnit) : s.changesOnly [.units] (s.setUnit a u) := by
  unfold State.setUnit
  split
  · exact .refl _ _
  · intro p hp; cases p <;> simp [State.agrees, State.railOf, State.lengthSide] at hp ⊢
theorem State.modUnit_changes (a : Nat) (f : BusUnit → BusUnit) : s.changesOnly [.units] (s.modUnit a f) :=
  s.setUnit_changes a _
theorem State.setAlert_changes (c : AlertCause) (r : AlertRecord) : s.changesOnly [.alerts] (s.setAlert c r) := by
  intro p hp; cases p <;> simp [State.agrees, State.railOf, State.lengthSide] at hp ⊢
theorem setLevel_changes (x : PanelLine) (v : Bool) : s.changesOnly [.panel] (setLevel x v s) := by
  unfold setLevel
  split
  · exact .refl _ _
  · intro p hp
    cases p <;> simp [State.agrees, State.railOf, State.lengthSide] at hp ⊢

/-- The Drive Ceiling Unit's own updates, by the fields they write. -/
theorem State.modDcu_changes {ps : List Part} (f : CeilingUnit → CeilingUnit)
    (h1 : .rows ∈ ps ∨ ((f s.dcu).rows = s.dcu.rows ∧ (f s.dcu).ceiling = s.dcu.ceiling
      ∧ (f s.dcu).positioning = s.dcu.positioning ∧ (f s.dcu).reevaluate = s.dcu.reevaluate))
    (h2 : .rates ∈ ps ∨ (f s.dcu).rates = s.dcu.rates)
    (h3 : .drive ∈ ps ∨ ((f s.dcu).lastActual = s.dcu.lastActual ∧ (f s.dcu).confirmed = s.dcu.confirmed
      ∧ (f s.dcu).disobey = s.dcu.disobey ∧ (f s.dcu).graceTimer = s.dcu.graceTimer
      ∧ (f s.dcu).graceExpired = s.dcu.graceExpired ∧ (f s.dcu).startPending = s.dcu.startPending))
    (h4 : .panel ∈ ps ∨ ((f s.dcu).lines = s.dcu.lines ∧ (f s.dcu).inputs = s.dcu.inputs)) :
    s.changesOnly ps (s.modDcu f) := by
  intro p hp
  cases p with
  | rows => exact h1.resolve_left hp
  | rates => exact h2.resolve_left hp
  | drive => exact h3.resolve_left hp
  | panel => simp [State.agrees, (h4.resolve_left hp).1, (h4.resolve_left hp).2]
  | _ => first | rfl | exact ⟨rfl, rfl⟩ | exact ⟨rfl, rfl, rfl⟩ | simp [State.agrees]

/-- The Service Bus Master's own updates, by the fields they write. -/
theorem State.modSbm_changes {ps : List Part} (f : BusMaster → BusMaster)
    (h1 : .units ∈ ps ∨ (f s.sbm).units = s.sbm.units)
    (h2 : .cycle ∈ ps ∨ ((f s.sbm).cycle = s.sbm.cycle ∧ (f s.sbm).begun = s.sbm.begun
      ∧ (f s.sbm).cycleTimer = s.sbm.cycleTimer ∧ (f s.sbm).exchanges = s.sbm.exchanges
      ∧ (f s.sbm).current = s.sbm.current))
    (h3 : .pass ∈ ps ∨ (f s.sbm).pass = s.sbm.pass) : s.changesOnly ps (s.modSbm f) := by
  intro p hp
  cases p with
  | units => exact h1.resolve_left hp
  | cycle => exact h2.resolve_left hp
  | pass => exact h3.resolve_left hp
  | _ => first | rfl | exact ⟨rfl, rfl⟩ | exact ⟨rfl, rfl, rfl⟩ | simp [State.agrees]

/-- The Mill Line Interface's own updates, by the fields they write. -/
theorem State.modMli_changes {ps : List Part} (f : MillLine → MillLine)
    (h1 : .reports ∈ ps ∨ ((f s.mli).reports = s.mli.reports ∧ (f s.mli).highMark = s.mli.highMark
      ∧ (f s.mli).eventGap = s.mli.eventGap ∧ (f s.mli).recordGap = s.mli.recordGap))
    (h2 : .alerts ∈ ps ∨ (f s.mli).alerts = s.mli.alerts)
    (h3 : .replies ∈ ps ∨ ((f s.mli).replies = s.mli.replies ∧ (f s.mli).replyDrop = s.mli.replyDrop))
    (h4 : .transport ∈ ps ∨ ((f s.mli).transport = s.mli.transport ∧ (f s.mli).transportDrop = s.mli.transportDrop))
    (h5 : .line ∈ ps ∨ s.agrees (s.modMli f) .line)
    (h6 : .writes ∈ ps ∨ ((f s.mli).deferred = s.mli.deferred ∧ (f s.mli).restartArmed = s.mli.restartArmed)) :
    s.changesOnly ps (s.modMli f) := by
  intro p hp
  cases p with
  | reports => exact h1.resolve_left hp
  | alerts => exact h2.resolve_left hp
  | replies => exact h3.resolve_left hp
  | transport => exact h4.resolve_left hp
  | line => exact h5.resolve_left hp
  | writes => exact h6.resolve_left hp
  | _ => first | rfl | exact ⟨rfl, rfl⟩ | simp [State.agrees]

/-! ### Updates of a whole table -/

theorem State.withSpindles_changes (v : Vector Spindle 2048) : s.changesOnly [.spindles] { s with spindles := v } := by
  intro p hp; cases p <;> simp [State.agrees, State.railOf, State.lengthSide] at hp ⊢
theorem State.withThresholds_changes (v : Thresholds) : s.changesOnly [.thresholds] { s with thresholds := v } := by
  intro p hp; cases p <;> simp [State.agrees, State.railOf, State.lengthSide] at hp ⊢
theorem State.withBobbins_changes (v : Vector Bobbin 2048) : s.changesOnly [.bobbins] { s with bobbins := v } := by
  intro p hp; cases p <;> simp [State.agrees, State.railOf, State.lengthSide] at hp ⊢
theorem State.withTables_changes (v : Vector Spindle 2048) (w : Vector Bobbin 2048) :
    s.changesOnly [.spindles, .bobbins] { s with spindles := v, bobbins := w } := by
  intro p hp; cases p <;> simp [State.agrees, State.railOf, State.lengthSide] at hp ⊢
theorem State.withShift_changes (v : ShiftUnit) : s.changesOnly [.shift] { s with sau := v } := by
  intro p hp; cases p <;> simp [State.agrees, State.railOf, State.lengthSide] at hp ⊢
theorem State.withPulses_changes (n : PulseWord) :
    s.changesOnly [.pulses] { s with lu := { s.lu with pulses := n } } := by
  intro p hp; cases p <;> simp [State.agrees, State.railOf, State.lengthSide] at hp ⊢
theorem State.withPd_changes {ps : List Part} (v : Dispatcher) (h1 : .zones ∈ ps ∨ v.zones = s.pd.zones)
    (h2 : .queues ∈ ps ∨ v.queues = s.pd.queues)
    (h3 : .channels ∈ ps ∨ (v.channels = s.pd.channels ∧ v.protection = s.pd.protection))
    (h4 : .downLoad ∈ ps ∨ v.downLoad = s.pd.downLoad) : s.changesOnly ps { s with pd := v } := by
  intro p hp
  cases p with
  | zones => exact h1.resolve_left hp
  | queues => exact h2.resolve_left hp
  | channels => exact h3.resolve_left hp
  | downLoad => exact h4.resolve_left hp
  | _ => first | rfl | exact ⟨rfl, rfl⟩ | simp [State.agrees]

theorem State.withSpindlesPd_changes {ps : List Part} (v : Vector Spindle 2048) (w : Dispatcher) (h : .spindles ∈ ps)
    (h1 : .zones ∈ ps ∨ w.zones = s.pd.zones) (h2 : .queues ∈ ps ∨ w.queues = s.pd.queues)
    (h3 : .channels ∈ ps ∨ (w.channels = s.pd.channels ∧ w.protection = s.pd.protection))
    (h4 : .downLoad ∈ ps ∨ w.downLoad = s.pd.downLoad) : s.changesOnly ps { s with spindles := v, pd := w } :=
  .trans (.mono (s.withSpindles_changes v) (by simpa using h)) (State.withPd_changes _ w h1 h2 h3 h4)

end updates

theorem finish_changes (s : State) : s.changesOnly [] (finish s) := by
  intro p hp; cases p <;> simp [State.agrees, State.railOf, State.lengthSide, finish, State.drivenLines]

/-! ### The operations, in the order of the model's files -/

variable (s : State)


/-! ### Posting, messages, replies -/

theorem raiseAlert_changes (c : AlertCause) (detail : Option Nat) :
    s.changesOnly [.alerts] (raiseAlert c detail s) := by
  unfold raiseAlert
  exact .mono (State.setAlert_changes _ _ _) (by simp)

theorem advanceEventGap_changes : s.changesOnly [.alerts, .reports] (advanceEventGap s) := by
  unfold advanceEventGap
  dsimp only
  refine .trans ?_ (State.modMli_changes _ _ (by simp) (by simp) (by simp) (by simp) (by simp [State.agrees]) (by simp))
  split
  · exact .mono (raiseAlert_changes _ _ _) (by simp)
  · exact .refl _ _

theorem advanceRecordGap_changes : s.changesOnly [.alerts, .reports] (advanceRecordGap s) := by
  unfold advanceRecordGap
  refine .trans ?_ (State.modMli_changes _ _ (by simp) (by simp) (by simp) (by simp) (by simp [State.agrees]) (by simp))
  exact .mono (raiseAlert_changes _ _ _) (by simp)

theorem appendReport_changes (r : Report) : s.changesOnly [.reports] (appendReport r s) := by
  unfold appendReport
  exact State.modMli_changes _ _ (by simp) (by simp) (by simp) (by simp) (by simp [State.agrees]) (by simp)

theorem postEvent_changes (b : ReportBody) : s.changesOnly [.alerts, .reports] (postEvent b s) := by
  unfold postEvent
  split
  · refine .trans ?_ (State.modMli_changes _ _ (by simp) (by simp) (by simp) (by simp) (by simp [State.agrees]) (by
      simp))
    exact .mono (appendReport_changes _ _) (by simp)
  · exact .mono (advanceEventGap_changes _) (by simp)

theorem evictForRecord_changes : s.changesOnly [.alerts, .reports] (evictForRecord s) := by
  unfold evictForRecord
  split
  · exact .refl _ _
  · split
    · refine .via ?_ (advanceEventGap_changes _) (by simp)
      exact State.modMli_changes _ _ (by simp) (by simp) (by simp) (by simp) (by simp [State.agrees]) (by simp)
    · refine .via ?_ (advanceRecordGap_changes _) (by simp)
      exact State.modMli_changes _ _ (by simp) (by simp) (by simp) (by simp) (by simp [State.agrees]) (by simp)

theorem postRecord_changes (b : ReportBody) : s.changesOnly [.alerts, .reports] (postRecord b s) := by
  unfold postRecord
  dsimp only
  refine .via ?_ (appendReport_changes _ _) (by simp)
  exact .mono (evictForRecord_changes _) (by simp)

theorem placeMsg_changes (a : Nat) (m : BusMsg) : s.changesOnly [.units] (placeMsg a m s) := by
  unfold placeMsg
  exact .mono (State.modUnit_changes _ _ _) (by simp)

theorem placeForRole_changes (r : Role) (m : BusMsg) : s.changesOnly [.units] (placeForRole r m s) := by
  unfold placeForRole
  split
  · exact .mono (placeMsg_changes _ _ _) (by simp)
  · exact .refl _ _

theorem dropMsgs_changes (a : Nat) (f : BusMsg → Bool) : s.changesOnly [.units] (dropMsgs a f s) := by
  unfold dropMsgs
  exact .mono (State.modUnit_changes _ _ _) (by simp)

theorem addReply_changes (r : Reply) : s.changesOnly [.replies] (addReply r s) := by
  unfold addReply
  split
  · exact State.modMli_changes _ _ (by simp) (by simp) (by simp) (by simp) (by simp [State.agrees]) (by simp)
  · exact State.modMli_changes _ _ (by simp) (by simp) (by simp) (by simp) (by simp [State.agrees]) (by simp)

theorem reply_changes (src tag code : Nat) (c : ReplyCode) (d : ReplyData) :
    s.changesOnly [.replies] (reply src tag code c d s) := by
  unfold reply
  exact .mono (addReply_changes _ _) (by simp)

/-! ### Drive Ceiling Unit -/

theorem recomputeCeiling_changes : s.changesOnly [.alerts, .reports, .rows] (recomputeCeiling s) := by
  unfold recomputeCeiling
  dsimp only
  split
  · exact .refl _ _
  · refine .via ?_ (postEvent_changes _ _) (by simp)
    exact State.modDcu_changes _ _ (by simp) (by simp) (by simp) (by simp)

theorem reportRow_changes (n : RowName) : s.changesOnly [.alerts, .reports] (reportRow n s) := by
  unfold reportRow
  exact .mono (postEvent_changes _ _) (by simp)

theorem activateRow_changes (n : RowName) : s.changesOnly [.alerts, .reports, .rows] (activateRow n s) := by
  unfold activateRow
  refine .via ?_ (reportRow_changes _ _) (by simp)
  exact .mono (State.setRow_changes _ _ _) (by simp)

theorem dropRow_changes (n : RowName) : s.changesOnly [.alerts, .reports, .rows] (dropRow n s) := by
  unfold dropRow
  refine .via ?_ (reportRow_changes _ _) (by simp)
  exact .mono (State.setRow_changes _ _ _) (by simp)

theorem dropTest_changes (n : RowName) : s.changesOnly [.alerts, .reports, .rows] (dropTest n s) := by
  unfold dropTest
  split
  · exact .mono (dropRow_changes _ _) (by simp)
  · exact .refl _ _

theorem latchRow_changes (n : RowName) : s.changesOnly [.alerts, .rows] (latchRow n s) := by
  unfold latchRow
  refine .via ?_ (raiseAlert_changes _ _ _) (by simp)
  exact .mono (State.setRow_changes _ _ _) (by simp)

theorem causePresent_changes (n : RowName) : s.changesOnly [.alerts, .reports, .rows] (causePresent n s) := by
  unfold causePresent
  dsimp only
  split
  · exact .refl _ _
  · split
    · exact .mono (State.setRow_changes _ _ _) (by simp)
    · split
      · refine .via ?_ (State.setRow_changes _ _ _) (by simp)
        exact .mono (State.setRow_changes _ _ _) (by simp)
      · split
        · refine .via ?_ (activateRow_changes _ _) (by simp)
          exact .mono (State.setRow_changes _ _ _) (by simp)
        · exact .mono (State.setRow_changes _ _ _) (by simp)

theorem causeAbsent_changes (n : RowName) : s.changesOnly [.alerts, .reports, .rows] (causeAbsent n s) := by
  unfold causeAbsent
  dsimp only
  split
  · exact .refl _ _
  · split
    · exact .mono (State.setRow_changes _ _ _) (by simp)
    · split
      · refine .via ?_ (latchRow_changes _ _) (by simp)
        exact .mono (State.setRow_changes _ _ _) (by simp)
      · refine .via ?_ (dropTest_changes _ _) (by simp)
        exact .mono (State.setRow_changes _ _ _) (by simp)

theorem setCause_changes (n : RowName) (present : Bool) :
    s.changesOnly [.alerts, .reports, .rows] (setCause n present s) := by
  unfold setCause
  refine .via ?_ (recomputeCeiling_changes _) (by simp)
  split
  · exact .mono (causePresent_changes _ _) (by simp)
  · exact .mono (causeAbsent_changes _ _) (by simp)

theorem setRowMode_changes (n : RowName) (m : Option CeilingMode) (positioning : Bool) :
    s.changesOnly [.rows] (setRowMode n m positioning s) := by
  unfold setRowMode
  exact .mono (State.setRow_changes _ _ _) (by simp)

theorem setDoffRow_changes (present : Bool) (m : Option CeilingMode) (positioning : Bool) :
    s.changesOnly [.alerts, .reports, .rows] (setDoffRow present m positioning s) := by
  unfold setDoffRow
  refine .via ?_ (setCause_changes _ _ _) (by simp)
  exact .mono (setRowMode_changes _ _ _ _) (by simp)

theorem advanceDwell_changes (n : RowName) : s.changesOnly [.alerts, .reports, .rows] (advanceDwell n s) := by
  unfold advanceDwell
  dsimp only
  split
  · refine .via ?_ (dropTest_changes _ _) (by simp)
    exact .mono (State.setRow_changes _ _ _) (by simp)
  · exact .refl _ _

theorem reevaluateRow_changes (n : RowName) : s.changesOnly [.alerts, .reports, .rows] (reevaluateRow n s) := by
  unfold reevaluateRow
  dsimp only
  split
  · split
    · exact .mono (State.setRow_changes _ _ _) (by simp)
    · split
      · exact .refl _ _
      · exact .mono (latchRow_changes _ _) (by simp)
  · split
    · split
      · exact .refl _ _
      · exact .mono (activateRow_changes _ _) (by simp)
    · split
      · exact .mono (dropRow_changes _ _) (by simp)
      · exact .refl _ _

theorem ceilingAtClose_changes (sd : Side) : s.changesOnly [.alerts, .reports, .rows] (ceilingAtClose sd s) := by
  unfold ceilingAtClose
  split
  · refine .foldl (fun x a => .via (reevaluateRow_changes x a) (recomputeCeiling_changes _) (by simp)) ?_
    exact State.modDcu_changes _ _ (by simp) (by simp) (by simp) (by simp)
  · split
    · exact .foldl (fun x a => .via (advanceDwell_changes x a) (recomputeCeiling_changes _) (by simp)) (.refl _ _)
    · exact .refl _ _

theorem releaseRow_changes (n : RowName) : s.changesOnly [.alerts, .reports, .rows] (releaseRow n s) := by
  unfold releaseRow
  refine .via ?_ (recomputeCeiling_changes _) (by simp)
  refine .via ?_ (dropTest_changes _ _) (by simp)
  exact .mono (State.setRow_changes _ _ _) (by simp)

theorem appliedTest_changes (n : RowName) : s.changesOnly [.alerts, .reports, .rows] (appliedTest n s) := by
  unfold appliedTest
  split
  · exact .refl _ _
  · exact dropTest_changes _ _

theorem applyCeilingRow_changes (n : RowName) (enable lock : Bool) (dwellMin : Nat) :
    s.changesOnly [.alerts, .reports, .rows] (applyCeilingRow n enable lock dwellMin s) := by
  unfold applyCeilingRow
  dsimp only
  refine .via ?_ (recomputeCeiling_changes _) (by simp)
  split
  · split
    · refine .via ?_ (dropRow_changes _ _) (by simp)
      exact .mono (State.setRow_changes _ _ _) (by simp)
    · exact .mono (State.setRow_changes _ _ _) (by simp)
  · split
    · refine .via ?_ (activateRow_changes _ _) (by simp)
      exact .mono (State.setRow_changes _ _ _) (by simp)
    · split
      · refine .via ?_ (appliedTest_changes _ _) (by simp)
        refine .via ?_ (State.setRow_changes _ _ _) (by simp)
        exact .mono (State.setRow_changes _ _ _) (by simp)
      · refine .via ?_ (appliedTest_changes _ _) (by simp)
        exact .mono (State.setRow_changes _ _ _) (by simp)

theorem testBreakRate_changes : s.changesOnly [.alerts, .reports, .rows] (testBreakRate s) := by
  unfold testBreakRate
  dsimp only
  split
  · split
    · exact .mono (setCause_changes _ _ _) (by simp)
    · exact .refl _ _
  · split
    · exact .mono (setCause_changes _ _ _) (by simp)
    · exact .refl _ _

theorem takeRate_changes (sd : Side) (rate : Nat) :
    s.changesOnly [.alerts, .rates, .reports, .rows] (takeRate sd rate s) := by
  unfold takeRate
  refine .via ?_ (testBreakRate_changes _) (by simp)
  exact State.modDcu_changes _ _ (by simp) (by simp) (by simp) (by simp)

theorem dropRates_changes (sd : Side) : s.changesOnly [.alerts, .rates, .reports, .rows] (dropRates sd s) := by
  unfold dropRates
  refine .via ?_ (testBreakRate_changes _) (by simp)
  exact State.modDcu_changes _ _ (by simp) (by simp) (by simp) (by simp)

theorem raiseDisobey_changes (reported carried : CeilingMode) :
    s.changesOnly [.alerts, .reports] (raiseDisobey reported carried s) := by
  unfold raiseDisobey
  refine .via ?_ (postEvent_changes _ _) (by simp)
  exact .mono (raiseAlert_changes _ _ _) (by simp)

theorem countDisobey_changes (reported carried : CeilingMode) :
    s.changesOnly [.alerts, .drive, .reports] (countDisobey reported carried s) := by
  unfold countDisobey
  split
  · dsimp only
    split
    · refine .via ?_ (raiseDisobey_changes _ _ _) (by simp)
      exact State.modDcu_changes _ _ (by simp) (by simp) (by simp) (by simp)
    · exact State.modDcu_changes _ _ (by simp) (by simp) (by simp) (by simp)
  · exact State.modDcu_changes _ _ (by simp) (by simp) (by simp) (by simp)

theorem takeActual_changes (carried : Option CeilingPart) (a : Actual) :
    s.changesOnly [.alerts, .drive, .reports] (takeActual carried a s) := by
  unfold takeActual
  dsimp only
  split
  · refine .via ?_ (countDisobey_changes _ _ _) (by simp)
    split
    · refine .trans ?_ (State.modDcu_changes _ _ (by simp) (by simp) (by simp) (by simp))
      split
      · exact State.modDcu_changes _ _ (by simp) (by simp) (by simp) (by simp)
      · refine .via ?_ (postEvent_changes _ _) (by simp)
        exact State.modDcu_changes _ _ (by simp) (by simp) (by simp) (by simp)
    · split
      · exact State.modDcu_changes _ _ (by simp) (by simp) (by simp) (by simp)
      · refine .via ?_ (postEvent_changes _ _) (by simp)
        exact State.modDcu_changes _ _ (by simp) (by simp) (by simp) (by simp)
  · split
    · exact State.modDcu_changes _ _ (by simp) (by simp) (by simp) (by simp)
    · refine .via ?_ (postEvent_changes _ _) (by simp)
      exact State.modDcu_changes _ _ (by simp) (by simp) (by simp) (by simp)

theorem requestStart_changes : s.changesOnly [.drive] (requestStart s) := by
  unfold requestStart
  exact State.modDcu_changes _ _ (by simp) (by simp) (by simp) (by simp)

theorem startGrace_changes : s.changesOnly [.doff, .drive] (startGrace s) := by
  unfold startGrace
  refine .via ?_ (State.modDoff_changes _ _) (by simp)
  exact State.modDcu_changes _ _ (by simp) (by simp) (by simp) (by simp)

theorem driveReturns_changes : s.changesOnly [.drive] (driveReturns s) := by
  unfold driveReturns
  exact State.modDcu_changes _ _ (by simp) (by simp) (by simp) (by simp)

theorem expireGrace_changes : s.changesOnly [.alerts, .drive, .reports] (expireGrace s) := by
  unfold expireGrace
  split
  · refine .via ?_ (postEvent_changes _ _) (by simp)
    refine .via ?_ (raiseAlert_changes _ _ _) (by simp)
    exact State.modDcu_changes _ _ (by simp) (by simp) (by simp) (by simp)
  · exact .refl _ _

theorem setPanelStop_changes (level : Bool) :
    s.changesOnly [.alerts, .panel, .reports, .rows] (setPanelStop level s) := by
  unfold setPanelStop
  split
  · exact .refl _ _
  · dsimp only
    refine .via ?_ (setCause_changes _ _ _) (by simp)
    split
    · refine .via ?_ (raiseAlert_changes _ _ _) (by simp)
      exact .mono (setLevel_changes _ _ _) (by simp)
    · exact .mono (setLevel_changes _ _ _) (by simp)

/-! ### Spindle Table -/

theorem enteredRed_changes (p : Nat) : s.changesOnly [.alerts, .reports, .shift] (enteredRed p s) := by
  unfold enteredRed
  refine .via ?_ (postEvent_changes _ _) (by simp)
  exact .mono (State.modRecord_changes _ _ _) (by simp)

theorem jobPieced_changes (p : Nat) : s.changesOnly [.spindles] (jobPieced p s) := by
  unfold jobPieced
  dsimp only
  split
  · split
    · exact .mono (State.setSpindle_changes _ _ _) (by simp)
    · exact .mono (State.setSpindle_changes _ _ _) (by simp)
  · exact .refl _ _

theorem jobFailed_changes (p : Nat) : s.changesOnly [.alerts, .reports, .shift, .spindles] (jobFailed p s) := by
  unfold jobFailed
  dsimp only
  split
  · split
    · refine .via ?_ (enteredRed_changes _ _) (by simp)
      exact .mono (State.setSpindle_changes _ _ _) (by simp)
    · exact .mono (State.setSpindle_changes _ _ _) (by simp)
  · exact .refl _ _

theorem jobBlocked_changes (p : Nat) : s.changesOnly [.alerts, .reports, .shift, .spindles] (jobBlocked p s) := by
  unfold jobBlocked
  dsimp only
  split
  · refine .via ?_ (enteredRed_changes _ _) (by simp)
    exact .mono (State.setSpindle_changes _ _ _) (by simp)
  · exact .refl _ _

theorem jobWithdrawn_changes (p : Nat) : s.changesOnly [.spindles] (jobWithdrawn p s) := by
  unfold jobWithdrawn
  dsimp only
  split
  · exact .mono (State.setSpindle_changes _ _ _) (by simp)
  · exact .refl _ _

theorem rovingOutRequest_changes (p : Nat) : s.changesOnly [.shift, .spindles] (rovingOutRequest p s) := by
  unfold rovingOutRequest
  dsimp only
  split
  · refine .via ?_ (State.modRecord_changes _ _ _) (by simp)
    exact .mono (State.setSpindle_changes _ _ _) (by simp)
  · exact .refl _ _

theorem rovingRestored_changes (p : Nat) : s.changesOnly [.spindles] (rovingRestored p s) := by
  unfold rovingRestored
  dsimp only
  split
  · exact .mono (State.setSpindle_changes _ _ _) (by simp)
  · exact .refl _ _

/-! ### Piecing Dispatcher -/

theorem setQueued_changes (p : Nat) (b : Bool) : s.changesOnly [.spindles] (setQueued p b s) := by
  unfold setQueued
  exact .mono (State.modSpindle_changes _ _ _) (by simp)

theorem insertSpindle_changes (c p : Nat) : s.changesOnly [.queues, .spindles] (insertSpindle c p s) := by
  unfold insertSpindle
  dsimp only
  split
  · refine .via ?_ (setQueued_changes _ _ _) (by simp)
    exact .mono (State.setQueue_changes _ _ _) (by simp)
  · split
    · split
      · exact .refl _ _
      · refine .via ?_ (setQueued_changes _ _ _) (by simp)
        refine .via ?_ (setQueued_changes _ _ _) (by simp)
        exact .mono (State.setQueue_changes _ _ _) (by simp)
    · exact .refl _ _

theorem dequeue_changes (p : Nat) : s.changesOnly [.queues, .spindles] (dequeue p s) := by
  unfold dequeue
  dsimp only
  split
  · refine .via ?_ (setQueued_changes _ _ _) (by simp)
    exact State.withPd_changes _ _ (by simp) (by simp) (by simp) (by simp)
  · exact State.withPd_changes _ _ (by simp) (by simp) (by simp) (by simp)

theorem requeue_changes (p : Nat) : s.changesOnly [.queues, .spindles] (requeue p s) := by
  unfold requeue
  split
  · split
    · exact .mono (insertSpindle_changes _ _ _) (by simp)
    · exact .refl _ _
  · exact .refl _ _

theorem purgeQueue_changes (c : Nat) (f : Nat → Bool) : s.changesOnly [.queues, .spindles] (purgeQueue c f s) := by
  unfold purgeQueue
  dsimp only
  refine .foldl (fun x a => ?_) ?_
  · exact .mono (setQueued_changes _ _ _) (by simp)
  · exact .mono (State.setQueue_changes _ _ _) (by simp)

theorem testDownLimit_changes : s.changesOnly [.alerts, .reports, .rows] (testDownLimit s) := by
  unfold testDownLimit
  exact .mono (setCause_changes _ _ _) (by simp)

theorem setDownLoad_changes (sd : Side) (d : DownLoad) :
    s.changesOnly [.alerts, .downLoad, .reports, .rows] (setDownLoad sd d s) := by
  unfold setDownLoad
  refine .via ?_ (testDownLimit_changes _) (by simp)
  exact State.withPd_changes _ _ (by simp) (by simp) (by simp) (by simp)

theorem countDownLoad_changes (sd : Side) (falsePieces confirmed : List Nat) :
    s.changesOnly [.alerts, .downLoad, .reports, .rows] (countDownLoad sd falsePieces confirmed s) := by
  unfold countDownLoad
  exact .mono (setDownLoad_changes _ _ _) (by simp)

theorem uncount_changes (p : Nat) : s.changesOnly [.alerts, .downLoad, .reports, .rows] (uncount p s) := by
  unfold uncount
  dsimp only
  split
  · exact .mono (setDownLoad_changes _ _ _) (by simp)
  · exact .refl _ _

theorem placeForChannel_changes (c : Nat) (m : BusMsg) : s.changesOnly [.units] (placeForChannel c m s) := by
  unfold placeForChannel
  split
  · exact .mono (placeMsg_changes _ _ _) (by simp)
  · exact .refl _ _

theorem placeCancel_changes (c job : Nat) (seq : Bool) : s.changesOnly [.units] (placeCancel c job seq s) := by
  unfold placeCancel
  split
  · exact .mono (State.modUnit_changes _ _ _) (by simp)
  · exact .refl _ _

theorem becomeIdle_changes (c : Nat) (byDone : Bool) : s.changesOnly [.channels, .units] (becomeIdle c byDone s) := by
  unfold becomeIdle
  dsimp only
  split
  · refine .via ?_ (placeForChannel_changes _ _ _) (by simp)
    exact .mono (State.setChannel_changes _ _ _) (by simp)
  · exact .mono (State.setChannel_changes _ _ _) (by simp)

theorem reportChannel_changes (c : Nat) : s.changesOnly [.alerts, .reports] (reportChannel c s) := by
  unfold reportChannel
  split
  · exact .mono (postEvent_changes _ _) (by simp)
  · exact .refl _ _

theorem becomeIdleFromOffline_changes (c : Nat) (unitReturned : Bool) :
    s.changesOnly [.alerts, .channels, .reports, .units] (becomeIdleFromOffline c unitReturned s) := by
  unfold becomeIdleFromOffline
  dsimp only
  refine .via ?_ (reportChannel_changes _ _) (by simp)
  split
  · refine .via ?_ (placeForChannel_changes _ _ _) (by simp)
    exact .mono (State.setChannel_changes _ _ _) (by simp)
  · exact .mono (State.setChannel_changes _ _ _) (by simp)

theorem goOffline_changes (c : Nat) (cause : OfflineCause) :
    s.changesOnly [.alerts, .channels, .reports] (goOffline c cause s) := by
  unfold goOffline
  dsimp only
  refine .via ?_ (reportChannel_changes _ _) (by simp)
  split
  · refine .via ?_ (raiseAlert_changes _ _ _) (by simp)
    exact .mono (State.setChannel_changes _ _ _) (by simp)
  · exact .mono (State.setChannel_changes _ _ _) (by simp)

theorem withdrawJob_changes (c : Nat) : s.changesOnly [.queues, .spindles] (withdrawJob c s) := by
  unfold withdrawJob
  split
  · refine .via ?_ (requeue_changes _ _) (by simp)
    exact .mono (jobWithdrawn_changes _ _) (by simp)
  · exact .refl _ _

theorem toggleSeq_changes (c : Nat) : s.changesOnly [.channels] (toggleSeq c s) := by
  unfold toggleSeq
  exact .mono (State.modChannel_changes _ _ _) (by simp)

theorem loseUnit_changes (c : Nat) :
    s.changesOnly [.alerts, .channels, .queues, .reports, .spindles] (loseUnit c s) := by
  unfold loseUnit
  split
  · exact .mono (State.modChannel_changes _ _ _) (by simp)
  · refine .via ?_ (goOffline_changes _ _ _) (by simp)
    refine .via ?_ (toggleSeq_changes _ _) (by simp)
    exact .mono (withdrawJob_changes _ _) (by simp)
  · refine .via ?_ (goOffline_changes _ _ _) (by simp)
    refine .via ?_ (toggleSeq_changes _ _) (by simp)
    exact .mono (withdrawJob_changes _ _) (by simp)
  · exact .mono (goOffline_changes _ _ _) (by simp)

theorem regainUnit_changes (c : Nat) : s.changesOnly [.alerts, .channels, .reports, .units] (regainUnit c s) := by
  unfold regainUnit
  split
  · exact .mono (becomeIdleFromOffline_changes _ _ _) (by simp)
  · exact .refl _ _

theorem bindChannel_changes (c : Nat) :
    s.changesOnly [.alerts, .channels, .queues, .reports, .spindles, .units] (bindChannel c s) := by
  unfold bindChannel
  split
  · exact .mono (regainUnit_changes _ _) (by simp)
  · split
    · exact .mono (loseUnit_changes _ _) (by simp)
    · exact .refl _ _

theorem makeOffer_changes (n c : Nat) (s : State) :
    s.changesOnly [.alerts, .channels, .downLoad, .queues, .reports, .rows, .spindles, .units] (makeOffer n c s) := by
  induction n generalizing s with
  | zero => exact .refl _ _
  | succ n ih =>
    unfold makeOffer
    split
    · exact .refl _ _
    · split
      · rename_i h
        unfold takeForJob at h
        dsimp only at h
        split at h
        · cases h
          refine .via ?_ (placeForChannel_changes _ _ _) (by simp)
          refine .via ?_ (State.modChannel_changes _ _ _) (by simp)
          refine .via ?_ (uncount_changes _ _) (by simp)
          refine .via ?_ (dequeue_changes _ _) (by simp)
          exact .mono (State.setSpindle_changes _ _ _) (by simp)
        · cases h
      · exact .trans (.mono (dequeue_changes _ _) (by simp)) (ih _)

theorem offerNow_changes (c : Nat) :
    s.changesOnly [.alerts, .channels, .downLoad, .queues, .reports, .rows, .spindles, .units] (offerNow c s) := by
  unfold offerNow
  split
  · exact .mono (makeOffer_changes _ _ _) (by simp)
  · exact .refl _ _

theorem offerAll_changes :
    s.changesOnly [.alerts, .channels, .downLoad, .queues, .reports, .rows, .spindles, .units] (offerAll s) := by
  unfold offerAll
  refine .foldl (fun x a => ?_) ?_
  · exact .mono (offerNow_changes _ _) (by simp)
  · exact .refl _ _

theorem withdrawOffer_changes (c : Nat) :
    s.changesOnly [.alerts, .channels, .queues, .reports, .spindles, .units] (withdrawOffer c s) := by
  unfold withdrawOffer
  dsimp only
  split
  · split
    · refine .via ?_ (goOffline_changes _ _ _) (by simp)
      refine .via ?_ (State.modChannel_changes _ _ _) (by simp)
      refine .via ?_ (toggleSeq_changes _ _) (by simp)
      refine .via ?_ (withdrawJob_changes _ _) (by simp)
      exact .mono (State.modUnit_changes _ _ _) (by simp)
    · refine .via ?_ (becomeIdle_changes _ _ _) (by simp)
      refine .via ?_ (State.modChannel_changes _ _ _) (by simp)
      refine .via ?_ (toggleSeq_changes _ _) (by simp)
      refine .via ?_ (withdrawJob_changes _ _) (by simp)
      exact .mono (State.modUnit_changes _ _ _) (by simp)
  · split
    · refine .via ?_ (goOffline_changes _ _ _) (by simp)
      refine .via ?_ (State.modChannel_changes _ _ _) (by simp)
      refine .via ?_ (toggleSeq_changes _ _) (by simp)
      exact .mono (withdrawJob_changes _ _) (by simp)
    · refine .via ?_ (becomeIdle_changes _ _ _) (by simp)
      refine .via ?_ (State.modChannel_changes _ _ _) (by simp)
      refine .via ?_ (toggleSeq_changes _ _) (by simp)
      exact .mono (withdrawJob_changes _ _) (by simp)

theorem countOfferPoll_changes (c : Nat) :
    s.changesOnly [.alerts, .channels, .queues, .reports, .spindles, .units] (countOfferPoll c s) := by
  unfold countOfferPoll
  split
  · dsimp only
    split
    · refine .via ?_ (withdrawOffer_changes _ _) (by simp)
      exact .mono (State.modChannel_changes _ _ _) (by simp)
    · exact .mono (State.modChannel_changes _ _ _) (by simp)
  · exact .refl _ _

theorem endCancelled_changes (cause : CancelCause) (p : Nat) :
    s.changesOnly [.alerts, .reports, .shift, .spindles] (endCancelled cause p s) := by
  unfold endCancelled
  split
  · exact .mono (jobFailed_changes _ _) (by simp)
  · exact .mono (jobWithdrawn_changes _ _) (by simp)

theorem cancelJob_changes (c : Nat) (cause : CancelCause) (h : cause ≠ .timeout) :
    s.changesOnly [.alerts, .channels, .queues, .reports, .spindles, .units] (cancelJob c cause s) := by
  unfold cancelJob
  dsimp only
  split
  · refine .via ?_ (postEvent_changes _ _) (by simp)
    refine .via ?_ (requeue_changes _ _) (by simp)
    unfold endCancelled
    rw [if_neg h]
    refine .via ?_ (jobWithdrawn_changes _ _) (by simp)
    refine .via ?_ (State.setChannel_changes _ _ _) (by simp)
    exact .mono (placeCancel_changes _ _ _ _) (by simp)
  · exact .refl _ _

theorem tellLeft_changes (p : Nat) :
    s.changesOnly [.alerts, .channels, .downLoad, .queues, .reports, .rows, .spindles, .units] (tellLeft p s) := by
  unfold tellLeft
  dsimp only
  split
  · refine .via ?_ (cancelJob_changes _ _ _ (by simp)) (by simp)
    refine .via ?_ (uncount_changes _ _) (by simp)
    exact .mono (dequeue_changes _ _) (by simp)
  · refine .via ?_ (uncount_changes _ _) (by simp)
    exact .mono (dequeue_changes _ _) (by simp)

theorem expireCancel_changes (c : Nat) : s.changesOnly [.channels, .units] (expireCancel c s) := by
  unfold expireCancel
  split
  · exact .mono (becomeIdle_changes _ _ _) (by simp)
  · exact .refl _ _

theorem expireJob_changes (c : Nat) :
    s.changesOnly [.alerts, .channels, .queues, .reports, .shift, .spindles, .units] (expireJob c s) := by
  unfold expireJob cancelJob endCancelled
  dsimp only
  split
  · split
    · refine .via ?_ (postEvent_changes _ _) (by simp)
      refine .via ?_ (requeue_changes _ _) (by simp)
      rw [if_pos rfl]
      refine .via ?_ (jobFailed_changes _ _) (by simp)
      refine .via ?_ (State.setChannel_changes _ _ _) (by simp)
      exact .mono (placeCancel_changes _ _ _ _) (by simp)
    · exact .refl _ _
  · exact .refl _ _

theorem takeAccept_changes (c : Nat) (seq : Bool) : s.changesOnly [.channels] (takeAccept c seq s).2 := by
  unfold takeAccept
  dsimp only
  split
  · dsimp only
    exact .refl _ _
  · split
    · split
      · dsimp only
        exact .mono (State.setChannel_changes _ _ _) (by simp)
      · dsimp only
        exact .refl _ _
      · dsimp only
        exact .refl _ _
    · dsimp only
      exact .refl _ _

theorem takePosition_changes (c p : Nat) (d : Direction) : s.changesOnly [.channels] (takePosition c p d s).2 := by
  unfold takePosition
  dsimp only
  exact .mono (State.modChannel_changes _ _ _) (by simp)

theorem takeStatus_changes (c : Nat) (ready : Bool) : s.changesOnly [.channels] (takeStatus c ready s).2 := by
  unfold takeStatus
  dsimp only
  exact .mono (State.modChannel_changes _ _ _) (by simp)

theorem parkIdle_changes (c : Nat) : s.changesOnly [.channels, .units] (parkIdle c s) := by
  unfold parkIdle
  split
  · refine .via ?_ (placeForChannel_changes _ _ _) (by simp)
    exact .mono (State.modChannel_changes _ _ _) (by simp)
  · exact .refl _ _

theorem protect_changes : s.changesOnly [.channels, .units] (protect s) := by
  unfold protect
  split
  · exact .refl _ _
  · dsimp only
    refine .foldl (fun x a => ?_) ?_
    · exact .mono (parkIdle_changes _ _) (by simp)
    · exact State.withPd_changes _ _ (by simp) (by simp) (by simp) (by simp)

theorem releaseProtection_changes :
    s.changesOnly [.alerts, .channels, .downLoad, .queues, .reports, .rows, .spindles, .units]
      (releaseProtection s) := by
  unfold releaseProtection
  split
  · refine .via ?_ (offerAll_changes _) (by simp)
    exact State.withPd_changes _ _ (by simp) (by simp) (by simp) (by simp)
  · exact .refl _ _

theorem clearCarriages_changes :
    s.changesOnly [.alerts, .channels, .queues, .reports, .spindles, .units] (clearCarriages s) := by
  unfold clearCarriages
  refine .foldl (fun x a => ?_) ?_
  · exact .mono (cancelJob_changes _ _ _ (by simp)) (by simp)
  · exact .refl _ _

theorem sweepInZone_changes (c : Nat) : s.changesOnly [.queues, .spindles] (sweepInZone c s) := by
  unfold sweepInZone
  dsimp only
  refine .foldl (fun x a => ?_) ?_
  · split
    · exact .mono (insertSpindle_changes _ _ _) (by simp)
    · exact .refl _ _
  · exact .refl _ _

theorem piecingAtClose_changes (sd : Side) (handPieced falsePieces confirmed : List Nat) :
    s.changesOnly [.alerts, .channels, .downLoad, .queues, .reports, .rows, .spindles, .units] (piecingAtClose sd
      handPieced falsePieces confirmed s) := by
  unfold piecingAtClose
  dsimp only
  refine .via ?_ (offerAll_changes _) (by simp)
  refine .via ?_ (countDownLoad_changes _ _ _ _) (by simp)
  refine .foldl (fun x a => ?_) ?_
  · split
    · exact .mono (sweepInZone_changes _ _) (by simp)
    · exact .refl _ _
  · refine .foldl (fun x a => ?_) ?_
    · exact .mono (requeue_changes _ _) (by simp)
    · refine .foldl (fun x a => ?_) ?_
      · exact .mono (requeue_changes _ _) (by simp)
      · refine .foldl (fun x a => ?_) ?_
        · exact .mono (dequeue_changes _ _) (by simp)
        · exact .refl _ _

theorem applyZone_changes (c : Nat) (z : Zone) :
    s.changesOnly [.alerts, .channels, .queues, .reports, .spindles, .units, .zones] (applyZone c z s) := by
  unfold applyZone
  dsimp only
  refine .via ?_ (bindChannel_changes _ _) (by simp)
  refine .via ?_ (purgeQueue_changes _ _ _) (by simp)
  refine .via ?_ (State.modChannel_changes _ _ _) (by simp)
  exact .mono (State.setZone_changes _ _ _) (by simp)

theorem resetSideChannels_changes (sd : Side) :
    s.changesOnly [.alerts, .channels, .queues, .reports, .spindles, .units] (resetSideChannels sd s) := by
  unfold resetSideChannels
  dsimp only
  refine .foldl (fun x a => ?_) ?_
  · split
    · exact .mono (purgeQueue_changes _ _ _) (by simp)
    · exact .refl _ _
  · refine .foldl (fun x a => ?_) ?_
    · split
      · exact .mono (cancelJob_changes _ _ _ (by simp)) (by simp)
      · exact .refl _ _
    · exact .refl _ _

/-! ### Creel Controller -/

theorem dropWaiting_changes (p : Nat) : s.changesOnly [.creel] (dropWaiting p s) := by
  unfold dropWaiting
  exact .mono (State.modCreel_changes _ _) (by simp)

theorem loadBobbin_changes (p : Nat) : s.changesOnly [.bobbins, .creel, .spindles] (loadBobbin p s) := by
  unfold loadBobbin
  dsimp only
  split
  · refine .via ?_ (rovingRestored_changes _ _) (by simp)
    refine .via ?_ (State.modCreel_changes _ _) (by simp)
    refine .via ?_ (dropWaiting_changes _ _) (by simp)
    exact .mono (State.setBobbin_changes _ _ _) (by simp)
  · refine .via ?_ (State.modCreel_changes _ _) (by simp)
    refine .via ?_ (dropWaiting_changes _ _) (by simp)
    exact .mono (State.setBobbin_changes _ _ _) (by simp)

theorem reportSection_changes (r : Nat) (old : SectionState) (reason replaced : Option Nat) :
    s.changesOnly [.alerts, .reports] (reportSection r old reason replaced s) := by
  unfold reportSection
  dsimp only
  split
  · exact .refl _ _
  · exact .mono (postEvent_changes _ _) (by simp)

theorem leaveQueue_changes (r : Nat) : s.changesOnly [.creel] (leaveQueue r s) := by
  unfold leaveQueue
  exact .mono (State.modCreel_changes _ _) (by simp)

theorem appendQueue_changes (r : Nat) : s.changesOnly [.creel] (appendQueue r s) := by
  unfold appendQueue
  dsimp only
  exact .mono (State.modCreel_changes _ _) (by simp)

theorem enterLow_changes (r : Nat) : s.changesOnly [.alerts, .creel, .reports] (enterLow r s) := by
  unfold enterLow
  dsimp only
  refine .via ?_ (reportSection_changes _ _ _ _ _) (by simp)
  refine .via ?_ (appendQueue_changes _ _) (by simp)
  refine .via ?_ (State.modSection_changes _ _ _) (by simp)
  exact .mono (leaveQueue_changes _ _) (by simp)

theorem addTransport_changes (f : ExchangeRequest) : s.changesOnly [.transport] (addTransport f s) := by
  unfold addTransport
  split
  · exact State.modMli_changes _ _ (by simp) (by simp) (by simp) (by simp) (by simp [State.agrees]) (by simp)
  · exact State.modMli_changes _ _ (by simp) (by simp) (by simp) (by simp) (by simp [State.agrees]) (by simp)

theorem handRequest_changes (r : Nat) : s.changesOnly [.transport] (handRequest r s) := by
  unfold handRequest
  dsimp only
  split
  · exact .refl _ _
  · exact .mono (addTransport_changes _ _) (by simp)

theorem startTransport_changes (r : Nat) : s.changesOnly [.creel] (startTransport r s) := by
  unfold startTransport
  exact .mono (State.modSection_changes _ _ _) (by simp)

theorem sendSection_changes (r : Nat) : s.changesOnly [.alerts, .creel, .reports, .transport] (sendSection r s) := by
  unfold sendSection
  dsimp only
  refine .via ?_ (reportSection_changes _ _ _ _ _) (by simp)
  refine .via ?_ (handRequest_changes _ _) (by simp)
  refine .via ?_ (startTransport_changes _ _) (by simp)
  exact .mono (State.modSection_changes _ _ _) (by simp)

theorem sendRequests_changes (n : Nat) (s : State) :
    s.changesOnly [.alerts, .creel, .reports, .transport] (sendRequests n s) := by
  induction n generalizing s with
  | zero => exact .refl _ _
  | succ n ih =>
    unfold sendRequests
    split
    · exact .trans (.mono (sendSection_changes _ _) (by simp)) (ih _)
    · exact .refl _ _

theorem sendWaiting_changes : s.changesOnly [.alerts, .creel, .reports, .transport] (sendWaiting s) := by
  unfold sendWaiting
  exact .mono (sendRequests_changes _ _) (by simp)

theorem promote_changes (r : Nat) : s.changesOnly [.creel, .transport] (promote r s) := by
  unfold promote
  split
  · dsimp only
    split
    · refine .via ?_ (handRequest_changes _ _) (by simp)
      exact .mono (State.modCreel_changes _ _) (by simp)
    · exact .mono (State.modCreel_changes _ _) (by simp)
  · exact .refl _ _

theorem appendSingle_changes (p : Nat) : s.changesOnly [.creel] (appendSingle p s) := by
  unfold appendSingle
  split
  · exact .mono (State.modCreel_changes _ _) (by simp)
  · exact .refl _ _

theorem placeSingle_changes : s.changesOnly [.creel, .units] (placeSingle s) := by
  unfold placeSingle
  split
  · split
    · refine .via ?_ (placeForRole_changes _ _ _) (by simp)
      exact .mono (State.modCreel_changes _ _) (by simp)
    · exact .refl _ _
  · exact .refl _ _

theorem endFlight_changes : s.changesOnly [.creel] (endFlight s) := by
  unfold endFlight
  exact .mono (State.modCreel_changes _ _) (by simp)

theorem failSingle_changes (p : Nat) : s.changesOnly [.alerts, .bobbins, .creel, .reports] (failSingle p s) := by
  unfold failSingle
  refine .via ?_ (postEvent_changes _ _) (by simp)
  refine .via ?_ (endFlight_changes _) (by simp)
  exact .mono (State.setBobbin_changes _ _ _) (by simp)

theorem discardAnswer_changes : s.changesOnly [.creel] (discardAnswer s) := by
  unfold discardAnswer
  exact .mono (State.modCreel_changes _ _) (by simp)

theorem takeChangerDone_changes (p : Nat) :
    s.changesOnly [.alerts, .bobbins, .creel, .reports, .spindles, .units] (takeChangerDone p s) := by
  unfold takeChangerDone
  refine .via ?_ (placeSingle_changes _) (by simp)
  split
  · dsimp only
    refine .via ?_ (postEvent_changes _ _) (by simp)
    split
    · refine .via ?_ (endFlight_changes _) (by simp)
      exact .mono (loadBobbin_changes _ _) (by simp)
    · exact .mono (loadBobbin_changes _ _) (by simp)
  · exact .mono (discardAnswer_changes _) (by simp)

theorem takeChangerFailed_changes (p : Nat) :
    s.changesOnly [.alerts, .bobbins, .creel, .reports, .units] (takeChangerFailed p s) := by
  unfold takeChangerFailed
  refine .via ?_ (placeSingle_changes _) (by simp)
  split
  · exact .mono (failSingle_changes _ _) (by simp)
  · exact .mono (discardAnswer_changes _) (by simp)

theorem dropSingles_changes : s.changesOnly [.units] (dropSingles s) := by
  unfold dropSingles
  split
  · exact .mono (dropMsgs_changes _ _ _) (by simp)
  · exact .refl _ _

theorem expireChange_changes : s.changesOnly [.alerts, .bobbins, .creel, .reports, .units] (expireChange s) := by
  unfold expireChange
  split
  · refine .via ?_ (placeSingle_changes _) (by simp)
    refine .via ?_ (failSingle_changes _ _) (by simp)
    exact .mono (dropSingles_changes _) (by simp)
  · exact .refl _ _

theorem loseChanger_changes : s.changesOnly [.creel] (loseChanger s) := by
  unfold loseChanger
  split
  · exact .mono (State.modCreel_changes _ _) (by simp)
  · exact .refl _ _

theorem emptySingles_changes : s.changesOnly [.creel] (emptySingles s) := by
  unfold emptySingles
  exact .mono (State.modCreel_changes _ _) (by simp)

theorem enteredRovingOut_changes (p : Nat) : s.changesOnly [.creel, .transport] (enteredRovingOut p s) := by
  unfold enteredRovingOut
  refine .via ?_ (appendSingle_changes _ _) (by simp)
  split
  · exact .mono (promote_changes _ _) (by simp)
  · exact .refl _ _

theorem takeNoRoving_changes (p : Nat) :
    s.changesOnly [.alerts, .bobbins, .creel, .reports, .shift, .spindles, .transport, .units] (takeNoRoving p s) := by
  unfold takeNoRoving
  dsimp only
  split
  · refine .via ?_ (placeSingle_changes _) (by simp)
    refine .via ?_ (sendWaiting_changes _) (by simp)
    refine .via ?_ (enteredRovingOut_changes _ _) (by simp)
    refine .via ?_ (rovingOutRequest_changes _ _) (by simp)
    exact .mono (State.setBobbin_changes _ _ _) (by simp)
  · exact .mono (State.setBobbin_changes _ _ _) (by simp)

theorem evaluateSection_changes (r : Nat) : s.changesOnly [.alerts, .creel, .reports] (evaluateSection r s) := by
  unfold evaluateSection
  dsimp only
  split
  · refine .via ?_ (enterLow_changes _ _) (by simp)
    exact .mono (State.modSection_changes _ _ _) (by simp)
  · exact .mono (State.modSection_changes _ _ _) (by simp)

theorem creelAtClose_changes (sd : Side) (rovingOut handCreeled : List Nat) :
    s.changesOnly [.alerts, .bobbins, .creel, .reports, .spindles, .transport, .units] (creelAtClose sd rovingOut
      handCreeled s) := by
  unfold creelAtClose
  dsimp only
  refine .via ?_ (placeSingle_changes _) (by simp)
  refine .via ?_ (sendWaiting_changes _) (by simp)
  refine .foldl (fun x a => ?_) ?_
  · exact .mono (appendSingle_changes _ _) (by simp)
  · refine .foldl (fun x a => ?_) ?_
    · split
      · exact .mono (evaluateSection_changes _ _) (by simp)
      · exact .refl _ _
    · refine .foldl (fun x a => ?_) ?_
      · exact .mono (loadBobbin_changes _ _) (by simp)
      · refine .foldl (fun x a => ?_) ?_
        · exact .mono (enteredRovingOut_changes _ _) (by simp)
        · exact .refl _ _

theorem takeTransportAck_changes (src row : Nat) : s.changesOnly [.creel] (takeTransportAck src row s) := by
  unfold takeTransportAck
  split
  · exact .mono (startTransport_changes _ _) (by simp)
  · exact .mono (discardAnswer_changes _) (by simp)

theorem enterExchanging_changes (r : Nat) :
    s.changesOnly [.alerts, .creel, .reports, .transport] (enterExchanging r s) := by
  unfold enterExchanging
  dsimp only
  refine .via ?_ (sendWaiting_changes _) (by simp)
  refine .via ?_ (reportSection_changes _ _ _ _ _) (by simp)
  refine .via ?_ (startTransport_changes _ _) (by simp)
  refine .via ?_ (State.modSection_changes _ _ _) (by simp)
  exact .mono (leaveQueue_changes _ _) (by simp)

theorem takeExchStart_changes (src row : Nat) :
    s.changesOnly [.alerts, .creel, .reports, .transport] (takeExchStart src row s) := by
  unfold takeExchStart
  dsimp only
  split
  · split
    · exact .mono (enterExchanging_changes _ _) (by simp)
    · exact .mono (enterExchanging_changes _ _) (by simp)
    · exact .mono (enterExchanging_changes _ _) (by simp)
    · exact .mono (startTransport_changes _ _) (by simp)
    · exact .mono (discardAnswer_changes _) (by simp)
  · exact .mono (discardAnswer_changes _) (by simp)

theorem enterSupplied_changes (r replaced : Nat) :
    s.changesOnly [.alerts, .creel, .reports, .transport] (enterSupplied r replaced s) := by
  unfold enterSupplied
  dsimp only
  refine .via ?_ (sendWaiting_changes _) (by simp)
  refine .via ?_ (reportSection_changes _ _ _ _ _) (by simp)
  refine .via ?_ (State.modSection_changes _ _ _) (by simp)
  exact .mono (leaveQueue_changes _ _) (by simp)

theorem takeExchDone_changes (src row replaced : Nat) :
    s.changesOnly [.alerts, .bobbins, .creel, .reports, .spindles, .transport] (takeExchDone src row replaced s) := by
  unfold takeExchDone
  split
  · dsimp only
    split
    · refine .via ?_ (enterSupplied_changes _ _ _) (by simp)
      refine .foldl (fun x a => ?_) ?_
      · exact .mono (dropWaiting_changes _ _) (by simp)
      · refine .foldl (fun x a => ?_) ?_
        · exact .mono (loadBobbin_changes _ _) (by simp)
        · exact .refl _ _
    · refine .foldl (fun x a => ?_) ?_
      · exact .mono (dropWaiting_changes _ _) (by simp)
      · refine .foldl (fun x a => ?_) ?_
        · exact .mono (loadBobbin_changes _ _) (by simp)
        · exact .refl _ _
  · exact .mono (discardAnswer_changes _) (by simp)

theorem takeReject_changes (src row reason : Nat) :
    s.changesOnly [.alerts, .creel, .reports, .transport] (takeReject src row reason s) := by
  unfold takeReject
  split
  · dsimp only
    refine .via ?_ (sendWaiting_changes _) (by simp)
    refine .via ?_ (reportSection_changes _ _ _ _ _) (by simp)
    exact .mono (State.modSection_changes _ _ _) (by simp)
  · exact .mono (discardAnswer_changes _) (by simp)

theorem enterStalled_changes (r : Nat) : s.changesOnly [.alerts, .creel, .reports, .transport] (enterStalled r s) := by
  unfold enterStalled
  dsimp only
  refine .via ?_ (sendWaiting_changes _) (by simp)
  refine .via ?_ (reportSection_changes _ _ _ _ _) (by simp)
  refine .via ?_ (raiseAlert_changes _ _ _) (by simp)
  refine .via ?_ (State.modCreel_changes _ _) (by simp)
  refine .via ?_ (State.modSection_changes _ _ _) (by simp)
  exact .mono (leaveQueue_changes _ _) (by simp)

theorem expireTransport_changes (r : Nat) :
    s.changesOnly [.alerts, .creel, .reports, .transport] (expireTransport r s) := by
  unfold expireTransport
  dsimp only
  split
  · exact .refl _ _
  · split
    · split
      · refine .via ?_ (startTransport_changes _ _) (by simp)
        refine .via ?_ (State.modSection_changes _ _ _) (by simp)
        exact .mono (handRequest_changes _ _) (by simp)
      · exact .mono (enterStalled_changes _ _) (by simp)
    · exact .mono (enterStalled_changes _ _) (by simp)
    · exact .refl _ _

theorem expireBackoff_changes (r : Nat) :
    s.changesOnly [.alerts, .creel, .reports, .transport] (expireBackoff r s) := by
  unfold expireBackoff
  split
  · exact .refl _ _
  · refine .via ?_ (sendWaiting_changes _) (by simp)
    exact .mono (State.modSection_changes _ _ _) (by simp)

theorem returnStalled_changes (r : Nat) :
    s.changesOnly [.alerts, .creel, .reports, .transport] (returnStalled r s) := by
  unfold returnStalled
  refine .via ?_ (sendWaiting_changes _) (by simp)
  exact .mono (enterLow_changes _ _) (by simp)

theorem setCreelDone_changes (level : Bool) :
    s.changesOnly [.alerts, .creel, .panel, .reports, .transport] (setCreelDone level s) := by
  unfold setCreelDone
  dsimp only
  split
  · split
    · refine .via ?_ (returnStalled_changes _ _) (by simp)
      exact .mono (setLevel_changes _ _ _) (by simp)
    · exact .mono (setLevel_changes _ _ _) (by simp)
  · exact .mono (setLevel_changes _ _ _) (by simp)

theorem applySection_changes (r : Nat) (c : SectionConfig) :
    s.changesOnly [.alerts, .bobbins, .creel, .reports, .spindles] (applySection r c s) := by
  unfold applySection
  dsimp only
  split
  · refine .foldl (fun x a => ?_) ?_
    · split
      · exact .mono (loadBobbin_changes _ _) (by simp)
      · exact .refl _ _
    · exact .mono (State.modSection_changes _ _ _) (by simp)
  · split
    · refine .via ?_ (reportSection_changes _ _ _ _ _) (by simp)
      refine .via ?_ (State.modSection_changes _ _ _) (by simp)
      refine .via ?_ (leaveQueue_changes _ _) (by simp)
      exact .mono (State.modSection_changes _ _ _) (by simp)
    · exact .mono (State.modSection_changes _ _ _) (by simp)

theorem resetSideSingles_changes (sd : Side) : s.changesOnly [.creel] (resetSideSingles sd s) := by
  unfold resetSideSingles
  exact .mono (State.modCreel_changes _ _) (by simp)

/-! ### Doff Controller -/

theorem setDoffRows_changes : s.changesOnly [.alerts, .reports, .rows] (setDoffRows s) := by
  unfold setDoffRows
  split
  · refine .via ?_ (setCause_changes _ _ _) (by simp)
    exact .mono (setDoffRow_changes _ _ _ _) (by simp)

theorem setDoffState_changes (st : DoffState) :
    s.changesOnly [.alerts, .doff, .reports, .rows] (setDoffState st s) := by
  unfold setDoffState
  dsimp only
  refine .via ?_ (setDoffRows_changes _) (by simp)
  refine .via ?_ (postEvent_changes _ _) (by simp)
  exact .mono (State.modDoff_changes _ _) (by simp)

theorem placeForDoffer_changes (m : BusMsg) : s.changesOnly [.units] (placeForDoffer m s) := by
  unfold placeForDoffer
  exact .mono (placeForRole_changes _ _ _) (by simp)

theorem dropDofferMsgs_changes : s.changesOnly [.units] (dropDofferMsgs s) := by
  unfold dropDofferMsgs
  split
  · exact .mono (dropMsgs_changes _ _ _) (by simp)
  · exact .refl _ _

theorem pauseSpindles_changes :
    s.changesOnly [.alerts, .channels, .creel, .downLoad, .queues, .reports, .rows, .spindles, .units]
      (pauseSpindles s) := by
  unfold pauseSpindles
  dsimp only
  refine .foldl (fun x a => ?_) ?_
  · exact .mono (dropWaiting_changes _ _) (by simp)
  · refine .foldl (fun x a => ?_) ?_
    · exact .mono (tellLeft_changes _ _) (by simp)
    · exact .mono (State.withSpindles_changes _ _) (by simp)

theorem resumeSpindles_changes : s.changesOnly [.spindles] (resumeSpindles s) := by
  unfold resumeSpindles
  exact .mono (State.withSpindles_changes _ _) (by simp)

theorem countDoff_changes (sd : Side) (r : CopRecord) : s.changesOnly [.shift] (countDoff sd r s) := by
  unfold countDoff
  split
  · exact .mono (State.modRecord_changes _ _ _) (by simp)
  · exact .refl _ _

theorem takeCopRecord_changes : s.changesOnly [.alerts, .doff, .reports, .shift] (takeCopRecord s) := by
  unfold takeCopRecord
  dsimp only
  refine .via ?_ (countDoff_changes _ _ _) (by simp)
  refine .via ?_ (countDoff_changes _ _ _) (by simp)
  refine .via ?_ (postRecord_changes _ _) (by simp)
  exact .mono (State.modDoff_changes _ _) (by simp)

theorem enterDoffing_changes :
    s.changesOnly [.alerts, .channels, .creel, .doff, .downLoad, .queues, .reports, .rows, .shift, .spindles, .units]
      (enterDoffing s) := by
  unfold enterDoffing
  dsimp only
  refine .via ?_ (State.modDoff_changes _ _) (by simp)
  refine .via ?_ (placeForDoffer_changes _ _) (by simp)
  refine .via ?_ (State.modDoff_changes _ _) (by simp)
  refine .via ?_ (State.withSpindles_changes _ _) (by simp)
  refine .via ?_ (takeCopRecord_changes _) (by simp)
  refine .via ?_ (State.modDoff_changes _ _) (by simp)
  refine .via ?_ (pauseSpindles_changes _) (by simp)
  refine .via ?_ (setDoffState_changes _ _) (by simp)
  exact .mono (State.modDoff_changes _ _) (by simp)

theorem testReadiness_changes :
    s.changesOnly [.alerts, .channels, .creel, .doff, .downLoad, .queues, .reports, .rows, .shift, .spindles, .units]
      (testReadiness s) := by
  unfold testReadiness
  split
  · exact .mono (enterDoffing_changes _) (by simp)
  · exact .refl _ _

theorem hearCarriages_changes : s.changesOnly [.doff] (hearCarriages s) := by
  unfold hearCarriages
  exact .mono (State.modDoff_changes _ _) (by simp)

theorem enterFull_changes :
    s.changesOnly [.alerts, .channels, .creel, .doff, .downLoad, .queues, .reports, .rows, .shift, .spindles,
      .units] (enterFull s) := by
  unfold enterFull
  dsimp only
  refine .via ?_ (testReadiness_changes _) (by simp)
  refine .via ?_ (hearCarriages_changes _) (by simp)
  refine .via ?_ (State.modDoff_changes _ _) (by simp)
  refine .via ?_ (protect_changes _) (by simp)
  exact .mono (setDoffState_changes _ _) (by simp)

theorem enterNearFull_changes : s.changesOnly [.alerts, .doff, .reports, .rows, .units] (enterNearFull s) := by
  unfold enterNearFull
  dsimp only
  refine .via ?_ (postEvent_changes _ _) (by simp)
  refine .via ?_ (placeForDoffer_changes _ _) (by simp)
  exact .mono (setDoffState_changes _ _) (by simp)

theorem testBuild_changes :
    s.changesOnly [.alerts, .channels, .creel, .doff, .downLoad, .queues, .reports, .rows, .shift, .spindles,
      .units] (testBuild s) := by
  unfold testBuild
  split
  · refine .via ?_ (enterFull_changes _) (by simp)
    exact .mono (enterNearFull_changes _) (by simp)
  · split
    · exact .mono (enterNearFull_changes _) (by simp)
    · exact .refl _ _

theorem enterBuild_changes :
    s.changesOnly [.alerts, .channels, .creel, .doff, .downLoad, .queues, .reports, .rows, .shift, .spindles, .units]
      (enterBuild s) := by
  unfold enterBuild
  refine .via ?_ (testBuild_changes _) (by simp)
  refine .via ?_ (setDoffState_changes _ _) (by simp)
  exact .mono (State.modDoff_changes _ _) (by simp)

theorem testLength_changes :
    s.changesOnly [.alerts, .channels, .creel, .doff, .downLoad, .queues, .reports, .rows, .shift, .spindles, .units]
      (testLength s) := by
  unfold testLength
  split
  · exact .mono (testBuild_changes _) (by simp)
  · split
    · exact .mono (enterFull_changes _) (by simp)
    · split
      · exact .mono (enterBuild_changes _) (by simp)
      · exact .refl _ _
  · exact .refl _ _

theorem testRamp_changes :
    s.changesOnly [.alerts, .channels, .creel, .doff, .downLoad, .queues, .reports, .rows, .shift, .spindles,
      .units] (testRamp s) := by
  unfold testRamp
  split
  · split
    · exact .mono (enterBuild_changes _) (by simp)
    · exact .refl _ _
  · split
    · exact .mono (enterBuild_changes _) (by simp)
    · exact .refl _ _

theorem enterRamp_changes :
    s.changesOnly [.alerts, .channels, .creel, .doff, .downLoad, .queues, .reports, .rows, .shift, .spindles,
      .units] (enterRamp s) := by
  unfold enterRamp
  refine .via ?_ (testRamp_changes _) (by simp)
  refine .via ?_ (State.modDoff_changes _ _) (by simp)
  refine .via ?_ (releaseProtection_changes _) (by simp)
  exact .mono (setDoffState_changes _ _) (by simp)

theorem enterSettle_changes : s.changesOnly [.alerts, .doff, .drive, .reports, .rows] (enterSettle s) := by
  unfold enterSettle
  refine .via ?_ (requestStart_changes _) (by simp)
  refine .via ?_ (setDoffState_changes _ _) (by simp)
  exact .mono (State.modDoff_changes _ _) (by simp)

theorem enterDoffFault_changes (origin : DoffOrigin) (reason : FaultReason) :
    s.changesOnly [.alerts, .doff, .reports, .rows, .units] (enterDoffFault origin reason s) := by
  unfold enterDoffFault
  dsimp only
  refine .via ?_ (dropDofferMsgs_changes _) (by simp)
  refine .via ?_ (raiseAlert_changes _ _ _) (by simp)
  refine .via ?_ (setDoffState_changes _ _) (by simp)
  exact .mono (State.modDoff_changes _ _) (by simp)

theorem tellDriveAtDoff_changes :
    s.changesOnly [.alerts, .channels, .creel, .doff, .downLoad, .queues, .reports, .rows, .shift, .spindles, .units]
      (tellDriveAtDoff s) := by
  unfold tellDriveAtDoff
  split
  · exact .refl _ _
  · refine .via ?_ (testReadiness_changes _) (by simp)
    exact .mono (State.modDoff_changes _ _) (by simp)

theorem tellCarriagesClear_changes :
    s.changesOnly [.alerts, .channels, .creel, .doff, .downLoad, .queues, .reports, .rows, .shift, .spindles, .units]
      (tellCarriagesClear s) := by
  unfold tellCarriagesClear
  split
  · exact .refl _ _
  · refine .via ?_ (testReadiness_changes _) (by simp)
    exact .mono (hearCarriages_changes _) (by simp)

theorem tellDoff_changes :
    s.changesOnly [.alerts, .channels, .creel, .doff, .downLoad, .queues, .reports, .rows, .shift, .spindles,
      .units] (tellDoff s) := by
  unfold tellDoff
  refine .via ?_ (tellCarriagesClear_changes _) (by simp)
  exact .mono (tellDriveAtDoff_changes _) (by simp)

theorem conclude_changes :
    s.changesOnly [.alerts, .channels, .creel, .doff, .downLoad, .queues, .reports, .rows, .shift, .spindles,
      .units] (conclude s) := by
  unfold conclude
  refine .via ?_ (tellDoff_changes _) (by simp)
  exact .mono (offerAll_changes _) (by simp)

theorem takeReady_changes :
    s.changesOnly [.alerts, .channels, .creel, .doff, .downLoad, .queues, .reports, .rows, .shift, .spindles,
      .units] (takeReady s) := by
  unfold takeReady
  split
  · refine .via ?_ (testReadiness_changes _) (by simp)
    exact .mono (State.modDoff_changes _ _) (by simp)
  · exact .refl _ _

theorem takeDoffDone_changes : s.changesOnly [.alerts, .doff, .drive, .reports, .rows] (takeDoffDone s) := by
  unfold takeDoffDone
  split
  · refine .via ?_ (enterSettle_changes _) (by simp)
    exact .mono (State.modDoff_changes _ _) (by simp)
  · exact .refl _ _

theorem takeDofferFault_changes : s.changesOnly [.alerts, .doff, .reports, .rows, .units] (takeDofferFault s) := by
  unfold takeDofferFault
  dsimp only
  split
  · refine .via ?_ (enterDoffFault_changes _ _ _) (by simp)
    exact .mono (State.modDoff_changes _ _) (by simp)
  · exact .mono (State.modDoff_changes _ _) (by simp)

theorem loseDoffer_changes : s.changesOnly [.alerts, .doff, .reports, .rows, .units] (loseDoffer s) := by
  unfold loseDoffer
  dsimp only
  split
  · refine .via ?_ (enterDoffFault_changes _ _ _) (by simp)
    exact .mono (State.modDoff_changes _ _) (by simp)
  · exact .mono (State.modDoff_changes _ _) (by simp)

theorem leaveUnconfigured_changes :
    s.changesOnly [.alerts, .channels, .creel, .doff, .downLoad, .queues, .reports, .rows, .shift, .spindles, .units]
      (leaveUnconfigured s) := by
  unfold leaveUnconfigured
  split
  · refine .via ?_ (enterBuild_changes _) (by simp)
    exact .mono (State.modDoff_changes _ _) (by simp)
  · exact .refl _ _

theorem advanceSettle_changes :
    s.changesOnly [.alerts, .channels, .creel, .doff, .downLoad, .queues, .reports, .rows, .shift, .spindles, .units]
      (advanceSettle s) := by
  unfold advanceSettle
  dsimp only
  split
  · split
    · refine .via ?_ (State.modDoff_changes _ _) (by simp)
      exact .mono (resumeSpindles_changes _) (by simp)
    · refine .via ?_ (enterRamp_changes _) (by simp)
      exact .mono (State.modDoff_changes _ _) (by simp)
  · exact .mono (State.modDoff_changes _ _) (by simp)

theorem doffAtClose_changes (sd : Side) :
    s.changesOnly [.alerts, .channels, .creel, .doff, .downLoad, .queues, .reports, .rows, .shift, .spindles, .units]
      (doffAtClose sd s) := by
  unfold doffAtClose
  dsimp only
  split
  · split
    · refine .via ?_ (testLength_changes _) (by simp)
      exact .mono (leaveUnconfigured_changes _) (by simp)
    · refine .via ?_ (testLength_changes _) (by simp)
      exact .mono (leaveUnconfigured_changes _) (by simp)
    · refine .via ?_ (testRamp_changes _) (by simp)
      exact .mono (leaveUnconfigured_changes _) (by simp)
    · split
      · refine .via ?_ (advanceSettle_changes _) (by simp)
        exact .mono (leaveUnconfigured_changes _) (by simp)
      · exact .mono (leaveUnconfigured_changes _) (by simp)
    · exact .mono (leaveUnconfigured_changes _) (by simp)
  · exact .mono (leaveUnconfigured_changes _) (by simp)

theorem expireStop_changes : s.changesOnly [.alerts, .doff, .reports, .rows, .units] (expireStop s) := by
  unfold expireStop
  split
  · exact .mono (enterDoffFault_changes _ _ _) (by simp)
  · exact .refl _ _

theorem expireClear_changes :
    s.changesOnly [.alerts, .channels, .doff, .queues, .reports, .spindles, .units] (expireClear s) := by
  unfold expireClear
  split
  · refine .via ?_ (clearCarriages_changes _) (by simp)
    exact .mono (State.modDoff_changes _ _) (by simp)
  · exact .refl _ _

theorem expireDoff_changes : s.changesOnly [.alerts, .doff, .reports, .rows, .units] (expireDoff s) := by
  unfold expireDoff
  split
  · exact .mono (enterDoffFault_changes _ _ _) (by simp)
  · exact .refl _ _

theorem callDoff_changes :
    s.changesOnly [.alerts, .channels, .creel, .doff, .downLoad, .queues, .reports, .rows, .shift, .spindles,
      .units] (callDoff s) := by
  unfold callDoff
  split
  · refine .via ?_ (enterFull_changes _) (by simp)
    exact .mono (enterNearFull_changes _) (by simp)
  · exact .mono (enterFull_changes _) (by simp)
  · exact .refl _ _

theorem setDoffCall_changes (level : Bool) :
    s.changesOnly [.alerts, .channels, .creel, .doff, .downLoad, .panel, .queues, .reports, .rows, .shift,
      .spindles, .units] (setDoffCall level s) := by
  unfold setDoffCall
  dsimp only
  split
  · refine .via ?_ (callDoff_changes _) (by simp)
    exact .mono (setLevel_changes _ _ _) (by simp)
  · exact .mono (setLevel_changes _ _ _) (by simp)

/-! ### Service Bus Master -/

theorem setPass_changes (r : Option PassRequest) : s.changesOnly [.pass] (setPass r s) := by
  unfold setPass
  exact State.modSbm_changes _ _ (by simp) (by simp) (by simp)

theorem enterPass_changes : s.changesOnly [.pass, .units] (enterPass s) := by
  unfold enterPass
  split
  · split
    · refine .via ?_ (setPass_changes _ _) (by simp)
      exact .mono (State.modUnit_changes _ _ _) (by simp)
    · exact .refl _ _
  · exact .refl _ _

theorem endPass_changes (r : PassRequest) (c : ReplyCode) (d : ReplyData) :
    s.changesOnly [.pass, .replies, .units] (endPass r c d s) := by
  unfold endPass
  dsimp only
  refine .via ?_ (reply_changes _ _ _ _ _ _) (by simp)
  refine .via ?_ (setPass_changes _ _) (by simp)
  exact .mono (State.modUnit_changes _ _ _) (by simp)

theorem endPassOffline_changes (a : Nat) : s.changesOnly [.pass, .replies, .units] (endPassOffline a s) := by
  unfold endPassOffline
  split
  · split
    · exact .mono (endPass_changes _ _ _ _) (by simp)
    · exact .refl _ _
  · exact .refl _ _

theorem countPassPoll_changes (x : Exchange) : s.changesOnly [.pass, .replies, .units] (countPassPoll x s) := by
  unfold countPassPoll
  split
  · split
    · split
      · split
        · exact .mono (endPass_changes _ _ _ _) (by simp)
        · exact .mono (setPass_changes _ _) (by simp)
      · exact .refl _ _
    · exact .refl _ _
  · exact .refl _ _

theorem tellLost_changes (a : Nat) (r : Role) :
    s.changesOnly [.alerts, .channels, .creel, .doff, .downLoad, .drive, .queues, .reports, .rows, .spindles,
      .units] (tellLost a r s) := by
  unfold tellLost
  split
  · refine .foldl (fun x a => ?_) ?_
    · exact .mono (loseUnit_changes _ _) (by simp)
    · exact .refl _ _
  · exact .mono (loseDoffer_changes _) (by simp)
  · exact .mono (startGrace_changes _) (by simp)
  · exact .mono (loseChanger_changes _) (by simp)
  · exact .refl _ _

theorem tellOnline_changes (a : Nat) (r : Role) :
    s.changesOnly [.alerts, .channels, .creel, .drive, .reports, .units] (tellOnline a r s) := by
  unfold tellOnline
  split
  · refine .foldl (fun x a => ?_) ?_
    · exact .mono (regainUnit_changes _ _) (by simp)
    · exact .refl _ _
  · exact .mono (driveReturns_changes _) (by simp)
  · exact .mono (placeSingle_changes _) (by simp)
  · exact .refl _ _

theorem reportUnit_changes (a : Nat) (old : UnitState) : s.changesOnly [.alerts, .reports] (reportUnit a old s) := by
  unfold reportUnit
  exact .mono (postEvent_changes _ _) (by simp)

theorem leftOnline_changes (a : Nat) :
    s.changesOnly [.alerts, .channels, .creel, .doff, .downLoad, .drive, .pass, .queues, .replies, .reports, .rows,
      .spindles, .units] (leftOnline a s) := by
  unfold leftOnline
  dsimp only
  refine .via ?_ (State.modUnit_changes _ _ _) (by simp)
  refine .via ?_ (tellLost_changes _ _ _) (by simp)
  refine .via ?_ (State.modUnit_changes _ _ _) (by simp)
  exact .mono (endPassOffline_changes _ _) (by simp)

theorem goUnitOffline_changes (a : Nat) :
    s.changesOnly [.alerts, .channels, .creel, .doff, .downLoad, .drive, .pass, .queues, .replies, .reports, .rows,
      .spindles, .units] (goUnitOffline a s) := by
  unfold goUnitOffline
  refine .via ?_ (reportUnit_changes _ _ _) (by simp)
  refine .via ?_ (leftOnline_changes _ _) (by simp)
  exact .mono (State.modUnit_changes _ _ _) (by simp)

theorem changeRole_changes (a : Nat) (r : Role) :
    s.changesOnly [.alerts, .channels, .creel, .doff, .downLoad, .drive, .pass, .queues, .replies, .reports, .rows,
      .spindles, .units] (changeRole a r s) := by
  unfold changeRole
  dsimp only
  split
  · exact .refl _ _
  · refine .via ?_ (reportUnit_changes _ _ _) (by simp)
    split
    · refine .via ?_ (emptySingles_changes _) (by simp)
      refine .foldl (fun x a => ?_) ?_
      · exact .mono (bindChannel_changes _ _) (by simp)
      · refine .via ?_ (State.modUnit_changes _ _ _) (by simp)
        refine .via ?_ (endPassOffline_changes _ _) (by simp)
        split
        · refine .via ?_ (leftOnline_changes _ _) (by simp)
          exact .mono (State.modUnit_changes _ _ _) (by simp)
        · split
          · exact .mono (startGrace_changes _) (by simp)
          · exact .refl _ _
    · refine .foldl (fun x a => ?_) ?_
      · exact .mono (bindChannel_changes _ _) (by simp)
      · refine .via ?_ (State.modUnit_changes _ _ _) (by simp)
        refine .via ?_ (endPassOffline_changes _ _) (by simp)
        split
        · refine .via ?_ (leftOnline_changes _ _) (by simp)
          exact .mono (State.modUnit_changes _ _ _) (by simp)
        · split
          · exact .mono (startGrace_changes _) (by simp)
          · exact .refl _ _

theorem beginExchange_changes (a : Nat) (probe : Bool) : s.changesOnly [.cycle, .units] (beginExchange a probe s) := by
  unfold beginExchange
  dsimp only
  refine .trans ?_ (State.modSbm_changes _ _ (by simp) (by simp) (by simp))
  split
  · exact .refl _ _
  · exact .mono (State.modUnit_changes _ _ _) (by simp)

theorem nextExchange_changes : s.changesOnly [.cycle, .units] (nextExchange s) := by
  unfold nextExchange
  split
  · refine .via ?_ (beginExchange_changes _ _ _) (by simp)
    exact State.modSbm_changes _ _ (by simp) (by simp) (by simp)
  · exact State.modSbm_changes _ _ (by simp) (by simp) (by simp)

theorem startCycle_changes : s.changesOnly [.cycle, .pass, .units] (startCycle s) := by
  unfold startCycle
  dsimp only
  refine .via ?_ (nextExchange_changes _) (by simp)
  refine .trans ?_ (State.modSbm_changes _ _ (by simp) (by simp) (by simp))
  refine .via ?_ (enterPass_changes _) (by simp)
  exact State.modSbm_changes _ _ (by simp) (by simp) (by simp)

theorem actOnOutcome_changes (p : Nat) (o : CarriageOutcome) :
    s.changesOnly [.alerts, .bobbins, .creel, .queues, .reports, .shift, .spindles, .transport, .units] (actOnOutcome
      p o s) := by
  unfold actOnOutcome
  split
  · refine .via ?_ (State.modRecord_changes _ _ _) (by simp)
    exact .mono (jobPieced_changes _ _) (by simp)
  · refine .via ?_ (requeue_changes _ _) (by simp)
    exact .mono (jobFailed_changes _ _) (by simp)
  · refine .via ?_ (requeue_changes _ _) (by simp)
    exact .mono (jobFailed_changes _ _) (by simp)
  · exact .mono (takeNoRoving_changes _ _) (by simp)
  · exact .mono (jobBlocked_changes _ _) (by simp)

theorem endJob_changes (c : Nat) (o : CarriageOutcome) :
    s.changesOnly [.alerts, .bobbins, .channels, .creel, .queues, .reports, .shift, .spindles, .transport, .units]
      (endJob c o s) := by
  unfold endJob
  dsimp only
  refine .via ?_ (becomeIdle_changes _ _ _) (by simp)
  refine .via ?_ (postEvent_changes _ _) (by simp)
  refine .via ?_ (actOnOutcome_changes _ _ _) (by simp)
  exact .mono (State.setChannel_changes _ _ _) (by simp)

theorem takeDone_changes (c : Nat) (seq : Bool) (o : CarriageOutcome) :
    s.changesOnly [.alerts, .bobbins, .channels, .creel, .queues, .reports, .shift, .spindles, .transport, .units]
      (takeDone c seq o s).2 := by
  unfold takeDone
  dsimp only
  split
  · split
    · dsimp only
      exact .mono (endJob_changes _ _ _) (by simp)
    · dsimp only
      exact .refl _ _
  · split
    · dsimp only
      exact .refl _ _
    · dsimp only
      exact .mono (becomeIdle_changes _ _ _) (by simp)
  · dsimp only
    exact .refl _ _
  · dsimp only
    exact .refl _ _
  · dsimp only
    exact .refl _ _

theorem setAnswer_changes (a : Nat) (c : Option AnswerCode) : s.changesOnly [.units] (setAnswer a c s) := by
  unfold setAnswer
  exact .mono (State.modUnit_changes _ _ _) (by simp)

theorem carriageMessage_changes (c : Nat) (m : UnitMsg) :
    s.changesOnly [.alerts, .bobbins, .channels, .creel, .queues, .reports, .shift, .spindles, .transport, .units]
      (carriageMessage c m s).2 := by
  unfold carriageMessage
  split
  · dsimp only
    exact .mono (takeAccept_changes _ _ _) (by simp)
  · dsimp only
    exact .mono (takeDone_changes _ _ _ _) (by simp)
  · dsimp only
    exact .mono (takePosition_changes _ _ _ _) (by simp)
  · dsimp only
    exact .mono (takeStatus_changes _ _ _) (by simp)
  · dsimp only
    exact .refl _ _

theorem dofferMessage_changes (m : UnitMsg) :
    s.changesOnly [.alerts, .channels, .creel, .doff, .downLoad, .drive, .queues, .reports, .rows, .shift,
      .spindles, .units] (dofferMessage m s) := by
  unfold dofferMessage
  split
  · exact .mono (takeReady_changes _) (by simp)
  · exact .mono (takeDoffDone_changes _) (by simp)
  · exact .mono (takeDofferFault_changes _) (by simp)
  · exact .refl _ _

theorem handMessage_changes (x : Exchange) (m : UnitMsg) :
    s.changesOnly [.alerts, .bobbins, .channels, .creel, .doff, .downLoad, .drive, .queues, .reports, .rows,
      .shift, .spindles, .transport, .units] (handMessage x m s) := by
  unfold handMessage
  split
  · split
    · dsimp only
      refine .via ?_ (setAnswer_changes _ _ _) (by simp)
      exact .mono (carriageMessage_changes _ _ _) (by simp)
    · exact .mono (setAnswer_changes _ _ _) (by simp)
  · refine .via ?_ (setAnswer_changes _ _ _) (by simp)
    exact .mono (dofferMessage_changes _ _) (by simp)
  · split
    · refine .via ?_ (setAnswer_changes _ _ _) (by simp)
      exact .mono (takeActual_changes _ _ _) (by simp)
    · exact .mono (setAnswer_changes _ _ _) (by simp)
  · split
    · refine .via ?_ (setAnswer_changes _ _ _) (by simp)
      exact .mono (takeChangerDone_changes _ _) (by simp)
    · refine .via ?_ (setAnswer_changes _ _ _) (by simp)
      exact .mono (takeChangerFailed_changes _ _) (by simp)
    · exact .mono (setAnswer_changes _ _ _) (by simp)
  · exact .refl _ _

theorem takePassReply_changes (x : Exchange) (status : Byte) (data : List Byte) :
    s.changesOnly [.pass, .replies, .units] (takePassReply x status data s) := by
  unfold takePassReply
  split
  · split
    · exact .mono (endPass_changes _ _ _ _) (by simp)
    · exact .refl _ _
  · exact .refl _ _

theorem takeMessage_changes (x : Exchange) (m : Option UnitMsg) :
    s.changesOnly [.alerts, .bobbins, .channels, .creel, .doff, .downLoad, .drive, .pass, .queues, .replies,
      .reports, .rows, .shift, .spindles, .transport, .units] (takeMessage x m s) := by
  unfold takeMessage
  split
  · exact .mono (takePassReply_changes _ _ _ _) (by simp)
  · exact .mono (handMessage_changes _ _ _) (by simp)
  · exact .refl _ _

theorem takeCauseFlag_changes (a : Nat) (cause : Bool) :
    s.changesOnly [.alerts, .reports, .units] (takeCauseFlag a cause s) := by
  unfold takeCauseFlag
  split
  · exact .refl _ _
  · dsimp only
    refine .via ?_ (postEvent_changes _ _) (by simp)
    split
    · refine .via ?_ (raiseAlert_changes _ _ _) (by simp)
      exact .mono (State.modUnit_changes _ _ _) (by simp)
    · exact .mono (State.modUnit_changes _ _ _) (by simp)

theorem goodState_changes (x : Exchange) :
    s.changesOnly [.alerts, .channels, .creel, .drive, .reports, .units] (goodState x s) := by
  unfold goodState
  split
  · exact .mono (State.modUnit_changes _ _ _) (by simp)
  · split
    · dsimp only
      refine .via ?_ (reportUnit_changes _ _ _) (by simp)
      refine .via ?_ (tellOnline_changes _ _ _) (by simp)
      exact .mono (State.modUnit_changes _ _ _) (by simp)
    · exact .refl _ _
  · exact .refl _ _

theorem countPolls_changes (x : Exchange) :
    s.changesOnly [.alerts, .channels, .pass, .queues, .replies, .reports, .spindles, .units] (countPolls x s) := by
  unfold countPolls
  refine .via ?_ (countPassPoll_changes _ _) (by simp)
  refine .foldl (fun x a => ?_) ?_
  · split
    · exact .mono (countOfferPoll_changes _ _) (by simp)
    · exact .refl _ _
  · exact .refl _ _

theorem takeGoodAnswer_changes (x : Exchange) (cause : Bool) (m : Option UnitMsg) :
    s.changesOnly [.alerts, .bobbins, .channels, .creel, .cycle, .doff, .downLoad, .drive, .pass, .queues,
      .replies, .reports, .rows, .shift, .spindles, .transport, .units] (takeGoodAnswer x cause m s) := by
  unfold takeGoodAnswer
  dsimp only
  refine .via ?_ (nextExchange_changes _) (by simp)
  refine .via ?_ (conclude_changes _) (by simp)
  refine .via ?_ (countPolls_changes _ _) (by simp)
  refine .via ?_ (takeMessage_changes _ _ _) (by simp)
  split
  · refine .via ?_ (goodState_changes _ _) (by simp)
    exact .mono (takeCauseFlag_changes _ _ _) (by simp)
  · refine .via ?_ (State.modUnit_changes _ _ _) (by simp)
    refine .via ?_ (goodState_changes _ _) (by simp)
    exact .mono (takeCauseFlag_changes _ _ _) (by simp)

theorem missedState_changes (a : Nat) :
    s.changesOnly [.alerts, .channels, .creel, .doff, .downLoad, .drive, .pass, .queues, .replies, .reports, .rows,
      .spindles, .units] (missedState a s) := by
  unfold missedState
  dsimp only
  split
  · split
    · refine .via ?_ (goUnitOffline_changes _ _) (by simp)
      refine .via ?_ (State.modUnit_changes _ _ _) (by simp)
      exact .mono (State.modUnit_changes _ _ _) (by simp)
    · refine .via ?_ (State.modUnit_changes _ _ _) (by simp)
      exact .mono (State.modUnit_changes _ _ _) (by simp)
  · exact .mono (State.modUnit_changes _ _ _) (by simp)

theorem takeMissedAnswer_changes (x : Exchange) :
    s.changesOnly [.alerts, .channels, .creel, .cycle, .doff, .downLoad, .drive, .pass, .queues, .replies,
      .reports, .rows, .shift, .spindles, .units] (takeMissedAnswer x s) := by
  unfold takeMissedAnswer
  refine .via ?_ (nextExchange_changes _) (by simp)
  refine .via ?_ (conclude_changes _) (by simp)
  refine .via ?_ (countPolls_changes _ _) (by simp)
  exact .mono (missedState_changes _ _) (by simp)

theorem takeAnswer_changes (a : Nat) (cause : Bool) (m : Option UnitMsg) :
    s.changesOnly [.alerts, .bobbins, .channels, .creel, .cycle, .doff, .downLoad, .drive, .pass, .queues,
      .replies, .reports, .rows, .shift, .spindles, .transport, .units] (takeAnswer a cause m s) := by
  unfold takeAnswer
  split
  · split
    · exact .mono (takeGoodAnswer_changes _ _ _ _) (by simp)
    · exact .mono (takeMissedAnswer_changes _ _) (by simp)
  · exact .refl _ _

theorem missAnswer_changes :
    s.changesOnly [.alerts, .channels, .creel, .cycle, .doff, .downLoad, .drive, .pass, .queues, .replies,
      .reports, .rows, .shift, .spindles, .units] (missAnswer s) := by
  unfold missAnswer
  split
  · exact .mono (takeMissedAnswer_changes _ _) (by simp)
  · exact .refl _ _

/-! ### Length Unit -/

theorem samplePoint_changes (sd : Side) : s.changesOnly [.length sd] (samplePoint sd s) := by
  unfold samplePoint
  exact .mono (State.modLength_changes _ _ _) (by simp)

theorem idleLength_changes (sd : Side) : s.changesOnly [.length sd] (idleLength sd s) := by
  unfold idleLength
  exact .mono (State.modLength_changes _ _ _) (by simp)

theorem advanceDelivered_changes (sd : Side) (d : Nat) : s.changesOnly [.doff] (advanceDelivered sd d s) := by
  unfold advanceDelivered
  split
  · exact .mono (State.modDoff_changes _ _) (by simp)
  · exact .refl _ _

theorem deliverLength_changes (sd : Side) : s.changesOnly [.doff, .length sd, .spindles] (deliverLength sd s).1 := by
  unfold deliverLength
  dsimp only
  refine .via ?_ (State.withSpindles_changes _ _) (by simp)
  refine .via ?_ (advanceDelivered_changes _ _ _) (by simp)
  exact .mono (State.modLength_changes _ _ _) (by simp)

theorem chargeRoving_changes (sd : Side) : s.changesOnly [.bobbins] (chargeRoving sd s).1 := by
  unfold chargeRoving
  split
  · dsimp only
    exact .refl _ _
  · dsimp only
    exact .mono (State.withBobbins_changes _ _) (by simp)

theorem lengthAtClose_changes (sd : Side) (moved : Nat) :
    s.changesOnly [.bobbins, .doff, .length sd, .spindles] (lengthAtClose sd moved s).1 :=
  .trans (.mono (deliverLength_changes s sd) (by simp)) (.mono (chargeRoving_changes _ sd) (by simp))

theorem presetBuild_changes (length : Nat) :
    s.changesOnly [.alerts, .channels, .creel, .doff, .downLoad, .queues, .reports, .rows, .shift, .spindles, .units]
      (presetBuild length s) := by
  unfold presetBuild
  dsimp only
  refine .via ?_ (testLength_changes _) (by simp)
  refine .via ?_ (State.withSpindles_changes _ _) (by simp)
  exact .mono (State.modDoff_changes _ _) (by simp)

/-! ### Rail Controller -/

theorem beginSweep_changes (sd : Side) (number : BitVec 4) (prior : List Bool) :
    s.changesOnly [.length sd, .rail sd] (beginSweep sd number prior s) := by
  unfold beginSweep
  dsimp only
  refine .via ?_ (samplePoint_changes _ _) (by simp)
  exact .mono (State.modRail_changes _ _ _) (by simp)

theorem sweepStart_changes (sd : Side) : s.changesOnly [.length sd, .rail sd] (sweepStart sd s) := by
  unfold sweepStart
  split
  · exact .mono (beginSweep_changes _ _ _ _) (by simp)
  · exact .refl _ _

theorem reportHead_changes (sd : Side) (h : Nat) (old new : Head) :
    s.changesOnly [.alerts, .reports] (reportHead sd h old new s) := by
  unfold reportHead
  split
  · exact .mono (postEvent_changes _ _) (by simp)
  · exact .refl _ _

theorem reportHeads_changes (sd : Side) (k : Nat) (os ns : List Head) (s : State) :
    s.changesOnly [.alerts, .reports] (reportHeads sd k os ns s) := by
  induction os generalizing k ns s with
  | nil => unfold reportHeads; exact .refl _ _
  | cons o os ih =>
    cases ns with
    | nil => unfold reportHeads; exact .refl _ _
    | cons n ns =>
      unfold reportHeads
      exact .trans (reportHead_changes _ _ _ _ _) (ih _ _ _)

theorem updateHeads_changes (sd : Side) : s.changesOnly [.alerts, .rail sd, .reports] (updateHeads sd s) := by
  unfold updateHeads
  dsimp only
  refine .via ?_ (reportHeads_changes _ _ _ _ _) (by simp)
  exact .mono (State.modRail_changes _ _ _) (by simp)

theorem setRailState_changes (sd : Side) (st : RailState) :
    s.changesOnly [.alerts, .rail sd, .reports, .rows] (setRailState sd st s) := by
  unfold setRailState
  dsimp only
  split
  · exact .refl _ _
  · refine .via ?_ (setCause_changes _ _ _) (by simp)
    split
    · refine .via ?_ (raiseAlert_changes _ _ _) (by simp)
      refine .via ?_ (postEvent_changes _ _) (by simp)
      exact .mono (State.modRail_changes _ _ _) (by simp)
    · refine .via ?_ (postEvent_changes _ _) (by simp)
      exact .mono (State.modRail_changes _ _ _) (by simp)

theorem updateRailState_changes (sd : Side) :
    s.changesOnly [.alerts, .rail sd, .reports, .rows] (updateRailState sd s) := by
  unfold updateRailState
  dsimp only
  refine .via ?_ (setRailState_changes _ _ _) (by simp)
  exact .mono (State.modRail_changes _ _ _) (by simp)

theorem resetSpindles_changes (sd : Side) (reach : Nat → Bool) (st : SpindleState) :
    s.changesOnly [.creel, .spindles] (resetSpindles sd reach st s) := by
  unfold resetSpindles
  refine .via ?_ (resetSideSingles_changes _ _) (by simp)
  exact .mono (State.withSpindles_changes _ _) (by simp)

theorem resetSideWith_changes {ps : List Part} (sd : Side) (f : State → State)
    (hf : ∀ x : State, x.changesOnly ps (f x)) (s : State) :
    s.changesOnly ([.alerts, .channels, .length sd, .queues, .rail sd, .reports, .rows, .spindles, .units, .creel] ++ ps)
      (resetSideWith sd f s) := by
  unfold resetSideWith
  dsimp only
  refine .via ?_ (beginSweep_changes _ _ _ _) (by simp)
  refine .via ?_ (hf _) (List.subset_append_right _ ps)
  refine .via ?_ (resetSideChannels_changes _ _) (by simp)
  refine .via ?_ (State.modRail_changes _ _ _) (by simp)
  exact .mono (setRailState_changes _ _ _) (by simp)

theorem sideReset_changes (sd : Side) :
    s.changesOnly [.alerts, .channels, .length sd, .queues, .rail sd, .reports, .rows, .spindles, .units, .creel]
      (sideReset sd s) := by
  unfold sideReset
  split
  · exact .mono (resetSideWith_changes sd _ (fun x => resetSpindles_changes x _ _ _) s) (by simp)
  · exact .refl _ _

theorem restartSide_changes (sd : Side) :
    s.changesOnly [.alerts, .channels, .length sd, .queues, .rail sd, .reports, .rows, .spindles, .units, .creel]
      (restartSide sd s) := by
  unfold restartSide
  split
  · exact .mono (resetSideWith_changes sd _ (fun x => resetSpindles_changes x _ _ _) s) (by simp)
  · exact .refl _ _

theorem bringToIdle_changes (sd : Side) (f : State → State)
    (hf : ∀ x : State, x.changesOnly [.bobbins, .creel, .spindles] (f x)) (s : State) :
    s.changesOnly [.alerts, .bobbins, .channels, .creel, .downLoad, .length sd, .queues, .rail sd, .rates, .reports,
      .rows, .shift, .spindles, .units] (bringToIdle sd f s) := by
  unfold bringToIdle
  dsimp only
  refine .via ?_ (dropRates_changes _ _) (by simp)
  refine .via ?_ (State.modShift_changes _ _ _) (by simp)
  refine .via ?_ (setDownLoad_changes _ _ _) (by simp)
  refine .via ?_ (idleLength_changes _ _) (by simp)
  refine .via ?_ (setRailState_changes _ _ _) (by simp)
  refine .via ?_ (hf _) (by simp)
  refine .via ?_ (resetSideChannels_changes _ _) (by simp)
  exact .mono (State.modRail_changes _ _ _) (by simp)

/-! ### Shift Accounting Unit -/

theorem advanceBlock_changes (sd : Side) (ends evaluable ms : Nat) :
    s.changesOnly [.shift] (advanceBlock sd ends evaluable ms s).1 := by
  unfold advanceBlock
  dsimp only
  split
  · dsimp only
    exact .mono (State.modShift_changes _ _ _) (by simp)
  · dsimp only
    exact .mono (State.modShift_changes _ _ _) (by simp)

theorem closeSide_changes (sd : Side) : s.changesOnly [.alerts, .reports, .shift, .spindles] (closeSide sd s) := by
  unfold closeSide
  dsimp only
  refine .via ?_ (State.withSpindles_changes _ _) (by simp)
  refine .via ?_ (State.modShift_changes _ _ _) (by simp)
  refine .via ?_ (postRecord_changes _ _) (by simp)
  exact .mono (State.modShift_changes _ _ _) (by simp)

theorem advanceShift_changes : s.changesOnly [.shift] (advanceShift s) := by
  unfold advanceShift
  split
  · exact .refl _ _
  · exact .mono (State.withShift_changes _ _) (by simp)

theorem closeIfPending_changes (sd : Side) :
    s.changesOnly [.alerts, .reports, .shift, .spindles] (closeIfPending sd s) := by
  unfold closeIfPending
  split
  · refine .via ?_ (advanceShift_changes _) (by simp)
    exact .mono (closeSide_changes _ _) (by simp)
  · exact .refl _ _

theorem askClose_changes (sd : Side) : s.changesOnly [.alerts, .reports, .shift, .spindles] (askClose sd s) := by
  unfold askClose
  split
  · exact .mono (State.modShift_changes _ _ _) (by simp)
  · exact .mono (closeSide_changes _ _) (by simp)

theorem shiftAtClose_changes (sd : Side) (t : CloseTotals) (ev : Nat → Bool) (ends : Nat) :
    s.changesOnly [.alerts, .reports, .shift, .spindles] (shiftAtClose sd t ev ends s).1 := by
  refine .via ?_ (closeIfPending_changes _ _) (by simp)
  refine .via ?_ (advanceBlock_changes _ _ _ _ _) (by simp)
  refine .via ?_ (State.withSpindles_changes _ _) (by simp)
  exact .mono (State.modRecord_changes _ _ _) (by simp)

theorem shiftClose_changes (src tag : Nat) :
    s.changesOnly [.alerts, .replies, .reports, .shift, .spindles] (shiftClose src tag s) := by
  unfold shiftClose
  split
  · exact .mono (reply_changes _ _ _ _ _ _) (by simp)
  · refine .via ?_ (reply_changes _ _ _ _ _ _) (by simp)
    refine .via ?_ (advanceShift_changes _) (by simp)
    refine .via ?_ (askClose_changes _ _) (by simp)
    exact .mono (askClose_changes _ _) (by simp)

/-! ### Table writes -/

theorem clearBeyond_changes (sd : Side) (n : Nat) : s.changesOnly [.bobbins, .spindles] (clearBeyond sd n s) :=
  .mono (State.withTables_changes _ _ _) (by simp)

theorem resetForMap_changes (sd : Side) (n : Nat) : s.changesOnly [.bobbins, .creel, .spindles] (resetForMap sd n s) := by
  unfold resetForMap
  refine .via ?_ (resetSpindles_changes _ _ _ _) (by simp)
  exact .mono (clearBeyond_changes _ _ _) (by simp)

theorem applyMap_changes (sd : Side) (n : Nat) (rovingStop : Bool) :
    s.changesOnly [.alerts, .bobbins, .channels, .creel, .downLoad, .length sd, .queues, .rail sd, .rates, .reports,
      .rows, .shift, .spindles, .units] (applyMap sd n rovingStop s) := by
  unfold applyMap
  dsimp only
  split
  · refine .trans ?_ (.mono (resetSideWith_changes sd _ (fun x => resetForMap_changes x sd n) _) (by simp))
    exact .mono (State.modRail_changes _ _ _) (by simp)
  · split
    · refine .via ?_ (bringToIdle_changes sd _ (fun x => resetForMap_changes x sd n) _) (by simp)
      exact .mono (State.modRail_changes _ _ _) (by simp)
    · refine .via ?_ (clearBeyond_changes _ _ _) (by simp)
      exact .mono (State.modRail_changes _ _ _) (by simp)

theorem applyThresholds_changes (w : ThresholdFields) :
    s.changesOnly [.alerts, .creel, .reports, .rows, .thresholds, .transport] (applyThresholds w s) := by
  unfold applyThresholds
  dsimp only
  split
  · refine .via ?_ (sendWaiting_changes _) (by simp)
    split
    · refine .via ?_ (testBreakRate_changes _) (by simp)
      exact .mono (State.withThresholds_changes _ _) (by simp)
    · exact .mono (State.withThresholds_changes _ _) (by simp)
  · split
    · refine .via ?_ (testBreakRate_changes _) (by simp)
      exact .mono (State.withThresholds_changes _ _) (by simp)
    · exact .mono (State.withThresholds_changes _ _) (by simp)

theorem applyEnable_changes (c : AlertCause) (e : Bool) : s.changesOnly [.alerts] (applyEnable c e s) := by
  unfold applyEnable
  dsimp only
  exact .mono (State.setAlert_changes _ _ _) (by simp)

/-! ### Reads -/

theorem readThresholds_changes (src tag : Nat) : s.changesOnly [.replies] (readThresholds src tag s) := by
  unfold readThresholds
  exact .mono (reply_changes _ _ _ _ _ _) (by simp)

theorem readLength_changes (src tag : Nat) : s.changesOnly [.replies] (readLength src tag s) := by
  unfold readLength
  exact .mono (reply_changes _ _ _ _ _ _) (by simp)

theorem readPiecing_changes (src tag : Nat) : s.changesOnly [.replies] (readPiecing src tag s) := by
  unfold readPiecing
  exact .mono (reply_changes _ _ _ _ _ _) (by simp)

theorem readDoff_changes (src tag : Nat) : s.changesOnly [.replies] (readDoff src tag s) := by
  unfold readDoff
  exact .mono (reply_changes _ _ _ _ _ _) (by simp)

theorem readCeiling_changes (src tag : Nat) : s.changesOnly [.replies] (readCeiling src tag s) := by
  unfold readCeiling
  exact .mono (reply_changes _ _ _ _ _ _) (by simp)

theorem readShift_changes (src tag : Nat) : s.changesOnly [.replies] (readShift src tag s) := by
  unfold readShift
  exact .mono (reply_changes _ _ _ _ _ _) (by simp)

theorem readBus_changes (src tag : Nat) : s.changesOnly [.replies] (readBus src tag s) := by
  unfold readBus
  exact .mono (reply_changes _ _ _ _ _ _) (by simp)

theorem readRail_changes (src tag side : Nat) : s.changesOnly [.replies] (readRail src tag side s) := by
  unfold readRail
  split
  · exact .mono (reply_changes _ _ _ _ _ _) (by simp)
  · exact .mono (reply_changes _ _ _ _ _ _) (by simp)

theorem readCreel_changes (src tag first last : Nat) : s.changesOnly [.replies] (readCreel src tag first last s) := by
  unfold readCreel
  split
  · exact .mono (reply_changes _ _ _ _ _ _) (by simp)
  · exact .mono (reply_changes _ _ _ _ _ _) (by simp)

theorem readSpindles_changes (src tag first last : Nat) :
    s.changesOnly [.replies] (readSpindles src tag first last s) := by
  unfold readSpindles
  split
  · exact .mono (reply_changes _ _ _ _ _ _) (by simp)
  · exact .mono (reply_changes _ _ _ _ _ _) (by simp)

theorem readLine_changes (src tag : Nat) : s.changesOnly [.replies] (readLine src tag s) := by
  unfold readLine
  exact .mono (reply_changes _ _ _ _ _ _) (by simp)

/-! ### Resets -/

theorem rePend_changes (c : AlertCause) : s.changesOnly [.alerts] (rePend c s) := by
  unfold rePend
  split
  · exact .mono (State.setAlert_changes _ _ _) (by simp)
  · exact .refl _ _

theorem restartLine_changes :
    s.changesOnly [.alerts, .line, .replies, .reports, .transport, .writes] (restartLine s) := by
  unfold restartLine
  dsimp only
  refine .via ?_ (rePend_changes _ _) (by simp)
  refine .via ?_ (rePend_changes _ _) (by simp)
  refine .via ?_ (rePend_changes _ _) (by simp)
  exact State.modMli_changes _ _ (by simp) (by simp) (by simp) (by simp) (by simp [State.agrees]) (by simp)

theorem restartCeiling_changes : s.changesOnly [.drive, .rows] (restartCeiling s) := by
  unfold restartCeiling
  exact State.modDcu_changes _ _ (by simp) (by simp) (by simp) (by simp)

theorem restartUnit_changes (a : Nat) :
    s.changesOnly [.alerts, .doff, .drive, .reports, .units] (restartUnit a s) := by
  unfold restartUnit
  dsimp only
  split
  · split
    · split
      · refine .via ?_ (startGrace_changes _) (by simp)
        exact .mono (State.modUnit_changes _ _ _) (by simp)
      · exact .mono (State.modUnit_changes _ _ _) (by simp)
    · refine .via ?_ (reportUnit_changes _ _ _) (by simp)
      split
      · refine .via ?_ (startGrace_changes _) (by simp)
        exact .mono (State.modUnit_changes _ _ _) (by simp)
      · exact .mono (State.modUnit_changes _ _ _) (by simp)
  · split
    · split
      · refine .via ?_ (startGrace_changes _) (by simp)
        exact .mono (State.modUnit_changes _ _ _) (by simp)
      · exact .mono (State.modUnit_changes _ _ _) (by simp)
    · refine .via ?_ (reportUnit_changes _ _ _) (by simp)
      split
      · refine .via ?_ (startGrace_changes _) (by simp)
        exact .mono (State.modUnit_changes _ _ _) (by simp)
      · exact .mono (State.modUnit_changes _ _ _) (by simp)

theorem restartBus_changes : s.changesOnly [.alerts, .cycle, .doff, .drive, .pass, .reports, .units] (restartBus s) := by
  unfold restartBus
  refine .foldl (fun x a => ?_) ?_
  · exact .mono (restartUnit_changes _ _) (by simp)
  · exact State.modSbm_changes _ _ (by simp) (by simp) (by simp)

theorem restartChannel_changes (c : Nat) : s.changesOnly [.alerts, .channels, .reports] (restartChannel c s) := by
  unfold restartChannel
  dsimp only
  split
  · exact .mono (State.setChannel_changes _ _ _) (by simp)
  · refine .via ?_ (goOffline_changes _ _ _) (by simp)
    exact .mono (State.setChannel_changes _ _ _) (by simp)

theorem restartPiecing_changes :
    s.changesOnly [.alerts, .channels, .queues, .reports, .spindles] (restartPiecing s) := by
  unfold restartPiecing
  dsimp only
  refine .foldl (fun x a => ?_) ?_
  · exact .mono (restartChannel_changes _ _) (by simp)
  · exact State.withSpindlesPd_changes _ _ _ (by simp) (by simp) (by simp) (by simp) (by simp)

theorem restartShift_changes : s.changesOnly [.shift] (restartShift s) := by
  unfold restartShift
  refine .via ?_ (State.modShift_changes _ _ _) (by simp)
  exact .mono (State.modShift_changes _ _ _) (by simp)

theorem restartSection_changes (r : Nat) : s.changesOnly [.alerts, .creel, .reports] (restartSection r s) := by
  unfold restartSection
  dsimp only
  refine .via ?_ (reportSection_changes _ _ _ _ _) (by simp)
  exact .mono (State.setSection_changes _ _ _) (by simp)

theorem restartCreel_changes : s.changesOnly [.alerts, .creel, .reports] (restartCreel s) := by
  unfold restartCreel
  refine .foldl (fun x a => ?_) ?_
  · exact .mono (restartSection_changes _ _) (by simp)
  · exact .mono (State.modCreel_changes _ _) (by simp)

theorem restartDoff_changes :
    s.changesOnly [.alerts, .channels, .doff, .drive, .reports, .rows, .units] (restartDoff s) := by
  unfold restartDoff
  dsimp only
  split
  · refine .via ?_ (State.modDoff_changes _ _) (by simp)
    refine .via ?_ (protect_changes _) (by simp)
    refine .via ?_ (enterDoffFault_changes _ _ _) (by simp)
    exact .mono (State.modDoff_changes _ _) (by simp)
  · refine .via ?_ (State.modDoff_changes _ _) (by simp)
    refine .via ?_ (protect_changes _) (by simp)
    refine .via ?_ (enterDoffFault_changes _ _ _) (by simp)
    exact .mono (State.modDoff_changes _ _) (by simp)
  · refine .via ?_ (State.modDoff_changes _ _) (by simp)
    refine .via ?_ (protect_changes _) (by simp)
    refine .via ?_ (setDoffRows_changes _) (by simp)
    exact .mono (State.modDoff_changes _ _) (by simp)
  · refine .via ?_ (requestStart_changes _) (by simp)
    refine .via ?_ (State.modDoff_changes _ _) (by simp)
    refine .via ?_ (protect_changes _) (by simp)
    refine .via ?_ (setDoffRows_changes _) (by simp)
    exact .mono (State.modDoff_changes _ _) (by simp)
  · refine .via ?_ (placeForDoffer_changes _ _) (by simp)
    refine .via ?_ (setDoffRows_changes _) (by simp)
    exact .mono (State.modDoff_changes _ _) (by simp)
  · refine .via ?_ (setDoffRows_changes _) (by simp)
    exact .mono (State.modDoff_changes _ _) (by simp)

theorem warmRestart_changes :
    s.changesOnly [.alerts, .channels, .creel, .cycle, .doff, .downLoad, .drive, .length .a, .length .b, .line,
      .pass, .queues, .rail .a, .rail .b, .replies, .reports, .rows, .shift, .spindles, .transport, .units, .writes]
      (warmRestart s) := by
  unfold warmRestart
  dsimp only
  refine .via ?_ (recomputeCeiling_changes _) (by simp)
  refine .via ?_ (restartDoff_changes _) (by simp)
  refine .via ?_ (restartCreel_changes _) (by simp)
  refine .via ?_ (restartShift_changes _) (by simp)
  refine .via ?_ (restartSide_changes _ _) (by simp)
  refine .via ?_ (restartSide_changes _ _) (by simp)
  refine .via ?_ (restartPiecing_changes _) (by simp)
  refine .via ?_ (restartBus_changes _) (by simp)
  refine .via ?_ (restartCeiling_changes _) (by simp)
  exact .mono (restartLine_changes _) (by simp)

/-! ### Management commands -/

theorem doffNow_changes (src tag : Nat) :
    s.changesOnly [.alerts, .channels, .creel, .doff, .downLoad, .queues, .replies, .reports, .rows, .shift,
      .spindles, .units] (doffNow src tag s) := by
  unfold doffNow
  split
  · refine .via ?_ (reply_changes _ _ _ _ _ _) (by simp)
    refine .via ?_ (conclude_changes _) (by simp)
    exact .mono (callDoff_changes _) (by simp)
  · refine .via ?_ (reply_changes _ _ _ _ _ _) (by simp)
    refine .via ?_ (conclude_changes _) (by simp)
    exact .mono (callDoff_changes _) (by simp)
  · exact .mono (reply_changes _ _ _ _ _ _) (by simp)
  · exact .mono (reply_changes _ _ _ _ _ _) (by simp)

theorem deferDoff_changes :
    s.changesOnly [.alerts, .channels, .creel, .doff, .downLoad, .queues, .reports, .rows, .shift, .spindles,
      .units] (deferDoff s) := by
  unfold deferDoff
  dsimp only
  split
  · refine .via ?_ (enterBuild_changes _) (by simp)
    refine .via ?_ (State.modDoff_changes _ _) (by simp)
    refine .via ?_ (releaseProtection_changes _) (by simp)
    refine .via ?_ (State.modDoff_changes _ _) (by simp)
    exact .mono (State.modDoff_changes _ _) (by simp)
  · refine .via ?_ (enterBuild_changes _) (by simp)
    exact .mono (State.modDoff_changes _ _) (by simp)

theorem doffDefer_changes (src tag : Nat) :
    s.changesOnly [.alerts, .channels, .creel, .doff, .downLoad, .queues, .replies, .reports, .rows, .shift,
      .spindles, .units] (doffDefer src tag s) := by
  unfold doffDefer
  split
  · split
    · exact .mono (reply_changes _ _ _ _ _ _) (by simp)
    · refine .via ?_ (reply_changes _ _ _ _ _ _) (by simp)
      refine .via ?_ (conclude_changes _) (by simp)
      exact .mono (deferDoff_changes _) (by simp)
  · exact .mono (reply_changes _ _ _ _ _ _) (by simp)

theorem presetCommand_changes (src tag length : Nat) :
    s.changesOnly [.alerts, .channels, .creel, .doff, .downLoad, .queues, .replies, .reports, .rows, .shift,
      .spindles, .units] (presetCommand src tag length s) := by
  unfold presetCommand
  split
  · split
    · exact .mono (reply_changes _ _ _ _ _ _) (by simp)
    · refine .via ?_ (reply_changes _ _ _ _ _ _) (by simp)
      refine .via ?_ (conclude_changes _) (by simp)
      exact .mono (presetBuild_changes _ _) (by simp)
  · exact .mono (reply_changes _ _ _ _ _ _) (by simp)

theorem releaseFault_changes :
    s.changesOnly [.alerts, .channels, .creel, .doff, .downLoad, .drive, .queues, .reports, .rows, .shift,
      .spindles, .units] (releaseFault s) := by
  unfold releaseFault
  dsimp only
  split
  · refine .via ?_ (enterSettle_changes _) (by simp)
    exact .mono (State.modDoff_changes _ _) (by simp)
  · refine .via ?_ (placeForDoffer_changes _ _) (by simp)
    refine .via ?_ (enterFull_changes _) (by simp)
    exact .mono (State.modDoff_changes _ _) (by simp)

theorem releaseDoff_changes (src tag : Nat) :
    s.changesOnly [.alerts, .channels, .creel, .doff, .downLoad, .drive, .queues, .replies, .reports, .rows,
      .shift, .spindles, .units] (releaseDoff src tag s) := by
  unfold releaseDoff
  split
  · refine .via ?_ (reply_changes _ _ _ _ _ _) (by simp)
    refine .via ?_ (conclude_changes _) (by simp)
    exact .mono (releaseFault_changes _) (by simp)
  · exact .mono (reply_changes _ _ _ _ _ _) (by simp)

theorem maskSpindle_changes (k : MaskKind) (p : Nat) :
    s.changesOnly [.alerts, .channels, .creel, .downLoad, .queues, .reports, .rows, .spindles, .units]
      (maskSpindle k p s) := by
  unfold maskSpindle
  dsimp only
  split
  · exact .mono (State.setSpindle_changes _ _ _) (by simp)
  · refine .via ?_ (tellLeft_changes _ _) (by simp)
    exact .mono (State.setSpindle_changes _ _ _) (by simp)
  · refine .via ?_ (tellLeft_changes _ _) (by simp)
    exact .mono (State.setSpindle_changes _ _ _) (by simp)
  · refine .via ?_ (tellLeft_changes _ _) (by simp)
    exact .mono (State.setSpindle_changes _ _ _) (by simp)
  · refine .via ?_ (dropWaiting_changes _ _) (by simp)
    exact .mono (State.setSpindle_changes _ _ _) (by simp)
  · exact .mono (State.setSpindle_changes _ _ _) (by simp)

theorem spindleMask_changes (src tag first last kind : Nat) :
    s.changesOnly [.alerts, .channels, .creel, .doff, .downLoad, .queues, .replies, .reports, .rows, .shift,
      .spindles, .units] (spindleMask src tag first last kind s) := by
  unfold spindleMask
  split
  · dsimp only
    refine .via ?_ (reply_changes _ _ _ _ _ _) (by simp)
    refine .via ?_ (conclude_changes _) (by simp)
    refine .foldl (fun x a => ?_) ?_
    · exact .mono (maskSpindle_changes _ _ _) (by simp)
    · exact .refl _ _
  · exact .mono (reply_changes _ _ _ _ _ _) (by simp)

theorem spindleUnmask_changes (src tag first last : Nat) :
    s.changesOnly [.replies, .spindles] (spindleUnmask src tag first last s) := by
  unfold spindleUnmask
  split
  · dsimp only
    refine .via ?_ (reply_changes _ _ _ _ _ _) (by simp)
    refine .foldl (fun x a => ?_) ?_
    · exact .mono (State.modSpindle_changes _ _ _) (by simp)
    · exact .refl _ _
  · exact .mono (reply_changes _ _ _ _ _ _) (by simp)

theorem clearRedSpindle_changes (p : Nat) :
    s.changesOnly [.alerts, .downLoad, .reports, .rows, .spindles] (clearRedSpindle p s) := by
  unfold clearRedSpindle
  split
  · refine .via ?_ (uncount_changes _ _) (by simp)
    exact .mono (State.modSpindle_changes _ _ _) (by simp)
  · exact .refl _ _

theorem clearRed_changes (src tag first last : Nat) :
    s.changesOnly [.alerts, .downLoad, .replies, .reports, .rows, .spindles] (clearRed src tag first last s) := by
  unfold clearRed
  split
  · dsimp only
    refine .via ?_ (reply_changes _ _ _ _ _ _) (by simp)
    refine .foldl (fun x a => ?_) ?_
    · exact .mono (clearRedSpindle_changes _ _) (by simp)
    · exact .refl _ _
  · exact .mono (reply_changes _ _ _ _ _ _) (by simp)

theorem controlChannel_changes (c : Nat) (q : ChannelParts) :
    s.changesOnly [.alerts, .channels, .queues, .reports, .spindles, .units] (controlChannel c q s) := by
  unfold controlChannel
  dsimp only
  split
  · refine .via ?_ (becomeIdleFromOffline_changes _ _ _) (by simp)
    split
    · refine .via ?_ (cancelJob_changes _ _ _ (by simp)) (by simp)
      exact .mono (State.modChannel_changes _ _ _) (by simp)
    · exact .mono (State.modChannel_changes _ _ _) (by simp)
  · split
    · refine .via ?_ (cancelJob_changes _ _ _ (by simp)) (by simp)
      exact .mono (State.modChannel_changes _ _ _) (by simp)
    · exact .mono (State.modChannel_changes _ _ _) (by simp)

theorem channelControl_changes (src tag c : Nat) (q : ChannelParts) :
    s.changesOnly [.alerts, .channels, .creel, .doff, .downLoad, .queues, .replies, .reports, .rows, .shift,
      .spindles, .units] (channelControl src tag c q s) := by
  unfold channelControl
  split
  · exact .mono (reply_changes _ _ _ _ _ _) (by simp)
  · split
    · exact .mono (reply_changes _ _ _ _ _ _) (by simp)
    · split
      · exact .mono (reply_changes _ _ _ _ _ _) (by simp)
      · refine .via ?_ (reply_changes _ _ _ _ _ _) (by simp)
        refine .via ?_ (conclude_changes _) (by simp)
        exact .mono (controlChannel_changes _ _ _) (by simp)

theorem overrideCeiling_changes (src tag : Nat) (mode : Option Nat) :
    s.changesOnly [.alerts, .replies, .reports, .rows] (overrideCeiling src tag mode s) := by
  unfold overrideCeiling
  split
  · refine .via ?_ (reply_changes _ _ _ _ _ _) (by simp)
    exact .mono (setCause_changes _ _ _) (by simp)
  · split
    · refine .via ?_ (reply_changes _ _ _ _ _ _) (by simp)
      refine .via ?_ (setCause_changes _ _ _) (by simp)
      exact .mono (setRowMode_changes _ _ _ _) (by simp)
    · exact .mono (reply_changes _ _ _ _ _ _) (by simp)

theorem releaseCeilingRow_changes (src tag row : Nat) :
    s.changesOnly [.alerts, .replies, .reports, .rows] (releaseCeilingRow src tag row s) := by
  unfold releaseCeilingRow
  split
  · split
    · refine .via ?_ (reply_changes _ _ _ _ _ _) (by simp)
      exact .mono (releaseRow_changes _ _) (by simp)
    · exact .mono (reply_changes _ _ _ _ _ _) (by simp)
  · exact .mono (reply_changes _ _ _ _ _ _) (by simp)

theorem releaseSection_changes (src tag row : Nat) :
    s.changesOnly [.alerts, .creel, .replies, .reports, .transport] (releaseSection src tag row s) := by
  unfold releaseSection
  split
  · exact .mono (reply_changes _ _ _ _ _ _) (by simp)
  · split
    · refine .via ?_ (reply_changes _ _ _ _ _ _) (by simp)
      exact .mono (returnStalled_changes _ _) (by simp)
    · exact .mono (reply_changes _ _ _ _ _ _) (by simp)

theorem acceptPass_changes (r : PassRequest) : s.changesOnly [.pass, .replies, .units] (acceptPass r s) := by
  unfold acceptPass
  split
  · exact .mono (reply_changes _ _ _ _ _ _) (by simp)
  · split
    · exact .mono (reply_changes _ _ _ _ _ _) (by simp)
    · refine .via ?_ (enterPass_changes _) (by simp)
      exact .mono (setPass_changes _ _) (by simp)

theorem passRead_changes (src tag unit register count : Nat) :
    s.changesOnly [.pass, .replies, .units] (passRead src tag unit register count s) := by
  unfold passRead
  split
  · exact .mono (acceptPass_changes _ _) (by simp)
  · exact .mono (reply_changes _ _ _ _ _ _) (by simp)

theorem passWrite_changes (src tag unit register : Nat) (data : List Byte) :
    s.changesOnly [.pass, .replies, .units] (passWrite src tag unit register data s) := by
  unfold passWrite
  split
  · exact .mono (acceptPass_changes _ _) (by simp)
  · exact .mono (reply_changes _ _ _ _ _ _) (by simp)

theorem acknowledge_changes (c : AlertCause) : s.changesOnly [.alerts] (acknowledge c s) := by
  unfold acknowledge
  refine .via ?_ (rePend_changes _ _) (by simp)
  exact .mono (State.setAlert_changes _ _ _) (by simp)

theorem alertAck_changes (src tag : Nat) (causes : List Nat) :
    s.changesOnly [.alerts, .replies] (alertAck src tag causes s) := by
  unfold alertAck
  split
  · refine .via ?_ (reply_changes _ _ _ _ _ _) (by simp)
    refine .foldl (fun x a => ?_) ?_
    · exact .mono (acknowledge_changes _ _) (by simp)
    · exact .refl _ _
  · exact .mono (reply_changes _ _ _ _ _ _) (by simp)

theorem restartCommand_changes (src tag : Nat) :
    s.changesOnly [.alerts, .channels, .creel, .cycle, .doff, .downLoad, .drive, .length .a, .length .b, .line,
      .pass, .queues, .rail .a, .rail .b, .replies, .reports, .rows, .shift, .spindles, .transport, .units, .writes]
      (restartCommand src tag s) := by
  unfold restartCommand
  dsimp only
  split
  · refine .via ?_ (warmRestart_changes _) (by simp)
    exact .mono (addReply_changes _ _) (by simp)
  · refine .trans ?_ (State.modMli_changes _ _ (by simp) (by simp) (by simp) (by simp) (by simp [State.agrees]) (by
      simp))
    exact .mono (addReply_changes _ _) (by simp)

/-! ### The sweep close -/

theorem countSensorFaults_changes (sd : Side) (obs : Vector Observation 2048) :
    s.changesOnly [.shift, .spindles] (countSensorFaults sd obs s) := by
  unfold countSensorFaults
  dsimp only
  refine .via ?_ (State.withSpindles_changes _ _) (by simp)
  exact .mono (State.modRecord_changes _ _ _) (by simp)

theorem advanceIndex_changes (sd : Side) : s.changesOnly [.rail sd] (advanceIndex sd s) := by
  unfold advanceIndex
  exact .mono (State.modRail_changes _ _ _) (by simp)

theorem railAtClose_changes (sd : Side) :
    s.changesOnly [.alerts, .rail sd, .reports, .rows, .shift, .spindles] (railAtClose sd s).1 := by
  unfold railAtClose
  dsimp only
  refine .via ?_ (State.modRail_changes _ _ _) (by simp)
  refine .via ?_ (updateRailState_changes _ _) (by simp)
  refine .via ?_ (countSensorFaults_changes _ _ _) (by simp)
  exact .mono (updateHeads_changes _ _) (by simp)

theorem classifySide_changes (sd : Side) (obs : Vector Observation 2048) :
    s.changesOnly [.shift, .spindles] (classifySide sd obs s).1 := by
  unfold classifySide
  dsimp only
  refine .via ?_ (State.modRecord_changes _ _ _) (by simp)
  exact .mono (State.withSpindles_changes _ _) (by simp)

theorem reportReds_changes (sd : Side) (ps : List Nat) : s.changesOnly [.alerts, .reports] (reportReds sd ps s) := by
  unfold reportReds
  refine .foldl (fun x a => ?_) ?_
  · exact .mono (postEvent_changes _ _) (by simp)
  · exact .refl _ _

theorem blocksAtClose_changes (sd : Side) (n : Notices) (rate : Option Nat) :
    s.changesOnly [.alerts, .bobbins, .channels, .creel, .doff, .downLoad, .queues, .rates, .reports, .rows, .shift,
      .spindles, .transport, .units] (blocksAtClose sd n rate s) := by
  unfold blocksAtClose
  dsimp only
  split
  · refine .via ?_ (takeRate_changes _ _ _) (by simp)
    refine .via ?_ (doffAtClose_changes _ _) (by simp)
    refine .via ?_ (creelAtClose_changes _ _ _ _) (by simp)
    refine .via ?_ (piecingAtClose_changes _ _ _ _ _) (by simp)
    refine .via ?_ (ceilingAtClose_changes _ _) (by simp)
    exact .mono (reportReds_changes _ _ _) (by simp)
  · refine .via ?_ (doffAtClose_changes _ _) (by simp)
    refine .via ?_ (creelAtClose_changes _ _ _ _) (by simp)
    refine .via ?_ (piecingAtClose_changes _ _ _ _ _) (by simp)
    refine .via ?_ (ceilingAtClose_changes _ _) (by simp)
    exact .mono (reportReds_changes _ _ _) (by simp)

theorem closeSweep_changes (sd : Side) :
    s.changesOnly [.alerts, .bobbins, .channels, .creel, .doff, .downLoad, .drive, .length sd, .queues, .rail sd,
      .rates, .reports, .rows, .shift, .spindles, .transport, .units] (closeSweep sd s) := by
  have h : closeSweep sd s =
      (let r := railAtClose sd s
       let c := classifySide sd r.2 r.1
       let l := lengthAtClose sd c.2.moved c.1
       let a := shiftAtClose sd l.2 (r.1.evaluable sd r.2) c.2.confirmed l.1
       blocksAtClose sd c.2 a.2 a.1) := rfl
  rw [h]
  dsimp only
  refine .via ?_ (blocksAtClose_changes _ _ _ _) (by simp)
  refine .via ?_ (shiftAtClose_changes _ _ _ _ _) (by simp)
  refine .via ?_ (lengthAtClose_changes _ _ _) (by simp)
  refine .via ?_ (classifySide_changes _ _ _) (by simp)
  exact .mono (railAtClose_changes _ _) (by simp)

/-! ### Mill line -/

theorem setLink_changes (p : Port) (x : PortState) : s.changesOnly [.line] (setLink p x s) := by
  cases p <;>
    exact State.modMli_changes _ _ (by simp [MillLine.setPort]) (by simp [MillLine.setPort]) (by simp
      [MillLine.setPort])
      (by simp [MillLine.setPort]) (by simp) (by simp [MillLine.setPort])

theorem linkHeard_changes (p : Port) : s.changesOnly [.alerts, .line, .reports] (linkHeard p s) := by
  unfold linkHeard
  dsimp only
  split
  · exact .mono (setLink_changes _ _ _) (by simp)
  · refine .via ?_ (postEvent_changes _ _) (by simp)
    exact .mono (setLink_changes _ _ _) (by simp)

theorem linkLost_changes (p : Port) :
    s.changesOnly [.alerts, .channels, .creel, .cycle, .doff, .downLoad, .drive, .length .a, .length .b, .line,
      .pass, .queues, .rail .a, .rail .b, .replies, .reports, .rows, .shift, .spindles, .transport, .units, .writes]
      (linkLost p s) := by
  unfold linkLost
  dsimp only
  split
  · split
    · refine .via ?_ (warmRestart_changes _) (by simp)
      refine .via ?_ (postEvent_changes _ _) (by simp)
      exact .mono (setLink_changes _ _ _) (by simp)
    · refine .via ?_ (postEvent_changes _ _) (by simp)
      exact .mono (setLink_changes _ _ _) (by simp)
  · exact .refl _ _

theorem forward_changes (p : Port) (bytes : List Byte) : s.changesOnly [.line] (forward p bytes s) := by
  unfold forward
  split
  · split
    · exact State.modMli_changes _ _ (by simp) (by simp) (by simp) (by simp) (by simp [State.agrees]) (by simp)
    · exact State.modMli_changes _ _ (by simp) (by simp) (by simp) (by simp) (by simp [State.agrees]) (by simp)
  · split
    · exact State.modMli_changes _ _ (by simp) (by simp) (by simp) (by simp) (by simp [State.agrees]) (by simp)
    · exact State.modMli_changes _ _ (by simp) (by simp) (by simp) (by simp) (by simp [State.agrees]) (by simp)

theorem takeTransport_changes (type src : Nat) (payload : List Byte) :
    s.changesOnly [.alerts, .bobbins, .creel, .reports, .spindles, .transport] (takeTransport type src payload s) := by
  unfold takeTransport
  split
  · exact .mono (takeTransportAck_changes _ _ _) (by simp)
  · exact .mono (takeExchStart_changes _ _ _) (by simp)
  · exact .mono (takeExchDone_changes _ _ _ _) (by simp)
  · exact .mono (takeReject_changes _ _ _ _) (by simp)
  · exact .mono (discardAnswer_changes _) (by simp)

theorem relieve_changes : s.changesOnly [.alerts, .reports] (relieve s) := by
  unfold relieve
  split
  · refine .via ?_ (raiseAlert_changes _ _ _) (by simp)
    exact State.modMli_changes _ _ (by simp) (by simp) (by simp) (by simp) (by simp [State.agrees]) (by simp)
  · exact .refl _ _

theorem State.nextOwn_changes (f : TxFrame) (t : State) (h : s.nextOwn = some (f, t)) :
    s.changesOnly [.alerts, .replies, .reports, .transport] t := by
  unfold State.nextOwn at h
  split at h
  · cases h
    exact State.modMli_changes _ _ (by simp) (by simp) (by simp) (by simp) (by simp [State.agrees]) (by simp)
  · split at h
    · cases h
      exact .mono (State.setAlert_changes _ _ _) (by simp)
    · split at h
      · cases h
        exact State.modMli_changes _ _ (by simp) (by simp) (by simp) (by simp) (by simp [State.agrees]) (by simp)
      · split at h
        · cases h
          refine .via ?_ (relieve_changes _) (by simp)
          exact State.modMli_changes _ _ (by simp) (by simp) (by simp) (by simp) (by simp [State.agrees]) (by simp)
        · cases h

theorem sendOwn_changes (f : TxFrame) : s.changesOnly [.line] (sendOwn f s) := by
  unfold sendOwn
  exact State.modMli_changes _ _ (by simp) (by simp) (by simp) (by simp) (by simp [State.agrees]) (by simp)

theorem sendForwarded_changes (b : List Byte) (rest : List (List Byte)) :
    s.changesOnly [.line] (sendForwarded b rest s) := by
  unfold sendForwarded
  exact State.modMli_changes _ _ (by simp) (by simp) (by simp) (by simp) (by simp [State.agrees]) (by simp)

theorem chooseUpstream_changes :
    s.changesOnly [.alerts, .line, .replies, .reports, .transport] (chooseUpstream s) := by
  have own : ∀ f t, s.ownFrame = some (f, t) → s.changesOnly [.alerts, .line, .replies, .reports, .transport] t := by
    intro f t h
    unfold State.ownFrame at h
    split at h
    · exact .mono (State.nextOwn_changes s f t h) (by simp)
    · cases h
  unfold chooseUpstream
  split
  · rename_i h
    split
    · exact .mono (sendForwarded_changes _ _ _) (by simp)
    · exact .via (own _ _ h) (sendOwn_changes _ _) (by simp)
  · exact .mono (sendForwarded_changes _ _ _) (by simp)
  · rename_i h
    exact .via (own _ _ h) (sendOwn_changes _ _) (by simp)
  · exact State.modMli_changes _ _ (by simp) (by simp) (by simp) (by simp) (by simp [State.agrees]) (by simp)

theorem endUpstream_changes :
    s.changesOnly [.alerts, .channels, .creel, .cycle, .doff, .downLoad, .drive, .length .a, .length .b, .line,
      .pass, .queues, .rail .a, .rail .b, .replies, .reports, .rows, .shift, .spindles, .transport, .units, .writes]
      (endUpstream s) := by
  unfold endUpstream
  refine .via ?_ (chooseUpstream_changes _) (by simp)
  split
  · exact .mono (warmRestart_changes _) (by simp)
  · exact .refl _ _

theorem endDownstream_changes : s.changesOnly [.line] (endDownstream s) := by
  unfold endDownstream
  split
  · exact State.modMli_changes _ _ (by simp) (by simp) (by simp) (by simp) (by simp [State.agrees]) (by simp)
  · exact State.modMli_changes _ _ (by simp) (by simp) (by simp) (by simp) (by simp [State.agrees]) (by simp)

end Sys2Proof.Machine
end

