-- ==== Sys2Proof/Laws/Ops.lean ====
section
/-! SUPPORT. What each shared operation does, said once: the end of an event, the taking and answering of a management
request, the posting of a report, the raising of an alert. A proof about a command cites these and unfolds none of
them. -/

namespace Sys2Proof.Machine

variable (s : State)

/-! ### The end of an event -/

@[simp] theorem finish_thresholds : (finish s).thresholds = s.thresholds := rfl
@[simp] theorem finish_rail : (finish s).rail = s.rail := rfl
@[simp] theorem finish_railOf (sd : Side) : (finish s).railOf sd = s.railOf sd := rfl
@[simp] theorem finish_spindles : (finish s).spindles = s.spindles := rfl
@[simp] theorem finish_spindle (p : Nat) : (finish s).spindle p = s.spindle p := rfl
@[simp] theorem finish_lu : (finish s).lu = s.lu := rfl
@[simp] theorem finish_lengthSide (sd : Side) : (finish s).lengthSide sd = s.lengthSide sd := rfl
@[simp] theorem finish_pd : (finish s).pd = s.pd := rfl
@[simp] theorem finish_channel (c : Nat) : (finish s).channel c = s.channel c := rfl
@[simp] theorem finish_breakQueue (c : Nat) : (finish s).breakQueue c = s.breakQueue c := rfl
@[simp] theorem finish_dc : (finish s).dc = s.dc := rfl
@[simp] theorem finish_creelSection (r : Nat) : (finish s).creelSection r = s.creelSection r := rfl
@[simp] theorem finish_queue : (finish s).cc.queue = s.cc.queue := rfl
@[simp] theorem finish_stalled : (finish s).cc.stalled = s.cc.stalled := rfl
@[simp] theorem finish_inFlight : (finish s).cc.inFlight = s.cc.inFlight := rfl
@[simp] theorem finish_waitingSingles : (finish s).cc.waiting = s.cc.waiting := rfl
@[simp] theorem finish_changeTimer : (finish s).cc.changeTimer = s.cc.changeTimer := rfl
@[simp] theorem finish_discarded : (finish s).cc.discardedAnswers = s.cc.discardedAnswers := rfl
@[simp] theorem finish_loads : (finish s).cc.loads = s.cc.loads := rfl
@[simp] theorem finish_bobbins : (finish s).bobbins = s.bobbins := rfl
@[simp] theorem finish_bobbin (p : Nat) : (finish s).bobbin p = s.bobbin p := rfl
@[simp] theorem finish_ceilingRow (n : RowName) : (finish s).ceilingRow n = s.ceilingRow n := rfl
@[simp] theorem finish_rates : (finish s).dcu.rates = s.dcu.rates := rfl
@[simp] theorem finish_ceiling : (finish s).dcu.ceiling = s.dcu.ceiling := rfl
@[simp] theorem finish_positioning : (finish s).dcu.positioning = s.dcu.positioning := rfl
@[simp] theorem finish_sau : (finish s).sau = s.sau := rfl
@[simp] theorem finish_sbm : (finish s).sbm = s.sbm := rfl
@[simp] theorem finish_unit (a : Nat) : (finish s).unit a = s.unit a := rfl
@[simp] theorem finish_mli : (finish s).mli = s.mli := rfl
@[simp] theorem finish_alert (c : AlertCause) : (finish s).alert c = s.alert c := rfl
@[simp] theorem finish_pending : (finish s).pending = s.pending := rfl

/-- Every event ends with the output lines as their facts drive them. -/
theorem finish_linesAgree : (finish s).linesAgree := ⟨rfl, rfl⟩

theorem offerNow_of_mayNot {s : State} {c : Nat} (h : s.mayOffer c = false) : offerNow c s = s := by
  simp [offerNow, h]

theorem offerAll_of_made {s : State} (h : ∀ c ∈ channelNumbers, s.mayOffer c = false) : offerAll s = s := by
  have h0 := offerNow_of_mayNot (h 0 (by decide))
  have h1 := offerNow_of_mayNot (h 1 (by decide))
  have h2 := offerNow_of_mayNot (h 2 (by decide))
  have h3 := offerNow_of_mayNot (h 3 (by decide))
  simp [offerAll, channelNumbers, h0, h1, h2, h3]

/-- Where nothing is left to do, the end of an event does nothing. -/
theorem conclude_of_quiet {s : State} (h : s.quiet) : conclude s = s := by
  obtain ⟨h1, h2, h3⟩ := h
  simp [conclude, offerAll_of_made h1, tellDoff, tellDriveAtDoff, tellCarriagesClear, h2, h3]

theorem postEvent_dcu (b : ReportBody) : (postEvent b s).dcu = s.dcu := by
  unfold postEvent advanceEventGap
  dsimp only
  split <;> [skip; split] <;> rfl

/-- The effective ceiling and its flag are read from the rows. -/
theorem State.ceilingAgrees_of_dcu {s t : State} (h : t.dcu = s.dcu) (k : s.ceilingAgrees) : t.ceilingAgrees := by
  obtain ⟨k1, k2⟩ := k
  constructor
  · rw [h, k1]; unfold State.effectiveCeiling State.ceilingRow; rw [h]
  · rw [h, k2]; unfold State.effectivePositioning State.effectiveCeiling State.ceilingRow; rw [h]

/-- After a recomputation the sent ceiling and its flag are the effective ceiling's. -/
theorem recomputeCeiling_agrees : (recomputeCeiling s).ceilingAgrees := by
  unfold recomputeCeiling
  dsimp only
  split
  · rename_i h; exact ⟨h.1.symm, h.2.symm⟩
  · exact State.ceilingAgrees_of_dcu (postEvent_dcu _ _) ⟨rfl, rfl⟩

/-! ### The panel inputs -/

@[simp] theorem PanelInputs.get_set (i : PanelInputs) (x y : PanelLine) (v : PanelInput) :
    (i.set x v).get y = if x = y then v else i.get y := by
  cases x <;> cases y <;> rfl

@[simp] theorem Lines.level_setLevel (l : Lines) (x y : PanelLine) (v : Bool) :
    (l.setLevel x v).level y = if x = y then v else l.level y := by
  cases x <;> cases y <;> rfl

theorem setLevel_of_same {x : PanelLine} {v : Bool} (h : s.dcu.lines.level x = v) : setLevel x v s = s := by
  simp [setLevel, h]

/-- A level that changes is the line's debounced level, and its raw level with the count of samples begun anew. -/
theorem setLevel_of_change {x : PanelLine} {v : Bool} (h : s.dcu.lines.level x ≠ v) :
    setLevel x v s =
      s.modDcu fun d => { d with lines := d.lines.setLevel x v, inputs := d.inputs.set x ⟨v, 0⟩ } := by
  simp [setLevel, h]

/-- A tick samples each line. -/
theorem tick_input (x : PanelLine) :
    (tick s).dcu.inputs.get x = (s.dcu.inputs.get x).sample (s.dcu.lines.level x) := by
  cases x <;> rfl

/-! ### A step with no command waiting -/

theorem idleStep_of_due {s : State} {i : Instr} {rest : List Instr} (h : s.due = i :: rest) :
    idleStep s = exec i s := by simp [idleStep, h]

theorem idleStep_of_none {s : State} (h : s.due = []) : idleStep s = .next (tick s) := by simp [idleStep, h]

/-! ### Management requests -/

theorem takeRequest_of_accepts {s : State} (h : s.accepts) (src tag code : Nat) (body : State → State) :
    takeRequest src tag code body s = body s := by
  have h1 : ¬ 4 ≤ s.placesHeld := by have := h.1; omega
  simp [takeRequest, h1, h.2.1]

theorem takeRequest_of_full {s : State} (h : 4 ≤ s.placesHeld) (src tag code : Nat) (body : State → State) :
    takeRequest src tag code body s = reply src tag code .overrun .none s := by simp [takeRequest, h]

theorem takeRequest_of_armed {s : State} (h : s.placesHeld < 4) (k : s.mli.restartArmed = true) (src tag code : Nat)
    (body : State → State) : takeRequest src tag code body s = reply src tag code .busy .none s := by
  have h1 : ¬ 4 ≤ s.placesHeld := by omega
  simp [takeRequest, h1, k]

theorem reply_of_room {s : State} (h : s.mli.replies.length < 8) (src tag code : Nat) (c : ReplyCode) (d : ReplyData) :
    reply src tag code c d s = s.modMli fun m => { m with replies := m.replies ++ [mkReply src tag code c d] } := by
  simp [reply, addReply, h]

/-- A reply is one answer, whatever happened before it, as long as the list had room and was left alone. -/
theorem reply_answers {s u : State} (h : s.mli.replies.length < 8) (k : s.agrees u .replies) (src tag code : Nat)
    (c : ReplyCode) (d : ReplyData) : s.answers (finish (reply src tag code c d u)) src tag code c d := by
  obtain ⟨k1, k2⟩ := k
  rw [reply_of_room (by rw [k1]; exact h)]
  exact ⟨by simp [State.modMli, k1], by simp [State.modMli, k2]⟩

/-! ### Reports and alerts -/

theorem postEvent_of_room {s : State} (h : s.mli.reports.length < 96) (b : ReportBody) :
    (postEvent b s).mli.reports = s.mli.reports ++ [⟨false, s.mli.eventGap, b⟩] := by
  simp [postEvent, h, appendReport, State.modMli]

theorem postEvent_gap_of_room {s : State} (h : s.mli.reports.length < 96) (b : ReportBody) :
    (postEvent b s).mli.eventGap = 0 := by
  simp [postEvent, h, appendReport, State.modMli]

theorem postEvent_alert_of_room {s : State} (h : s.mli.reports.length < 96) (b : ReportBody) (c : AlertCause) :
    (postEvent b s).alert c = s.alert c := by
  simp [postEvent, h, appendReport, State.modMli, State.alert]

/-- With room in the queue, posting an EVENT changes the report queue alone. -/
theorem postEvent_changes_of_room {s : State} (h : s.mli.reports.length < 96) (b : ReportBody) :
    s.changesOnly [.reports] (postEvent b s) := by
  simp only [postEvent, h, ↓reduceIte, appendReport]
  intro p hp
  cases p <;> simp [State.agrees, State.modMli, State.railOf, State.lengthSide] at hp ⊢

theorem raiseAlert_alert (c d : AlertCause) (detail : Option Nat) :
    (raiseAlert c detail s).alert d = if c = d then (s.alert c).occur detail else s.alert d := by
  unfold raiseAlert
  exact State.alert_setAlert s c d _

/-! ### The down-limit count -/

/-- A side's count after it is set: the test of DOWN_LIMIT leaves it. -/
theorem setDownLoad_get (sd e : Side) (d : DownLoad) (s : State) :
    (setDownLoad sd d s).pd.downLoad.get e = if e = sd then d else s.pd.downLoad.get e := by
  have h : (setDownLoad sd d s).pd.downLoad = s.pd.downLoad.set sd d := testDownLimit_changes _ .downLoad (by simp)
  rw [h, PerSide.get_set]

theorem DownLoad.not_counts_without (d : DownLoad) (p : Nat) : (d.without p).counts p = false := by
  simp [DownLoad.without, DownLoad.counts]

/-- A spindle taken out of the count is in no list of it. -/
theorem uncount_not_counts (p : Nat) (s : State) :
    ((uncount p s).pd.downLoad.get (sideOf p)).counts p = false := by
  unfold uncount
  dsimp only
  split
  · rw [setDownLoad_get, if_pos rfl, DownLoad.not_counts_without]
  · next h => simpa using h

end Sys2Proof.Machine
end

