-- ==== Sys2Proof/Tests/Slice0.lean ====
section
/-! SUPPORT. The model's own tests: an ill-formed term for each check of WellFormed, the spec's worked examples on one
step or one operation, and for each statement with hypotheses a state and operands that meet them together. -/

-- One proof after another: each of these evaluations holds a thread of its own while it runs.
set_option Elab.async false

namespace Sys2Proof.Tests

open Sys2Proof Sys2Proof.Machine

/-! ### Small states -/

/-- A side of 64 spindles in a state, its window open. -/
def railIn (st : RailState) : Rail :=
  { installed := 64, rovingStop := true, state := st, heads := List.replicate 4 {}, windowOpen := true,
    window := List.replicate 4 .unanswered }

/-- The article of the spec's examples (5.2). -/
def art : Article := ⟨412, 1000, 1000, 3850, 30000, 2400, 500, 300, 1000, 128⟩

/-- Side A sweeping, side B IDLE, nothing under way, the upstream link UP. -/
def base : State :=
  { State.reset with
    rail := ⟨railIn .sync, {}⟩
    dc := { State.reset.dc with carriagesClear := true }
    mli := { State.reset.mli with upstream := { up := true }, station := 5 } }

/-- Both sides sweeping. -/
def both : State := { base with rail := ⟨railIn .sync, railIn .sync⟩ }

/-- Both sides IDLE. -/
def idle : State := { base with rail := ⟨{}, {}⟩ }

/-- `base` in a doff state, with the active article. -/
def doffIn (d : DoffState) (s : State := base) : State := s.modDoff fun x => { x with state := d, active := some art }

/-- Channel 0 with a zone over side A at bus address 2, and its break queue. -/
def withChannel (x : Channel) (q : List Nat) (s : State := base) : State :=
  { s with
    dc := { s.dc with carriagesClear := !x.inJob }
    pd := { s.pd with zones := s.pd.zones.set 0 ⟨true, some 2, .a, 0, 63⟩, channels := s.pd.channels.set 0 x,
                      queues := s.pd.queues.set 0 q } }

/-- The poll of the unit at bus address 2. -/
def poll : Exchange := ⟨2, false, none, none, none⟩

/-- The unit at bus address 2 has a role and is being polled. -/
def polling (r : Role) (s : State := base) (x : Exchange := poll) : State :=
  s.modSbm fun b => { b with units := b.units.set 1 { role := r, state := .online }, current := some x }

/-- A spindle's record replaced. -/
def spin (p : Nat) (st : SpindleState) (s : State := base) : State := s.setSpindle p { state := st }

/-- The outcome is a next state that satisfies `f`. -/
def nextHas (o : Host.Outcome State Fault Refusal) (f : State → Bool) : Bool :=
  match o with
  | .next t => f t
  | _ => false

/-! ### Well-formedness: every check refuses -/

/-- An ill-formed term for each check of the events, the unit messages and the line. -/
theorem test_wf_refuses_bus_and_line : ([
      .goodAnswer (List.replicate 29 0#8), .missedPollsLimit 256, .accept 256 false false, .done 256 false false
      .pieced, .position 256 false 0 .up, .position 0 false 65536 .up, .status 256 false false, .ready 256 false,
      .doffDone 256 false, .fault 256 false, .actual 256 false .halt false false false, .creelChangerDone 256 false 0,
      .creelChangerDone 0 false 65536, .creelChangerFailed 256 false 0, .creelChangerFailed 0 false 65536,
      .passThroughReply 256 false 0#8 [], .passThroughReply 0 false 0#8 (List.replicate 20 0#8), .offerWithdrawn 4,
      .jobTimerExpiry 4, .cancelTimerExpiry 4, .transportTimerExpiry 64, .backoffTimerExpiry 64, .headLost .a 64,
      .millLineFrame .upstream (List.replicate 248 0#8), .transportAck 256 0, .transportAck 0 256, .exchStart 256 0,
      .exchStart 0 256, .exchDone 256 0 0, .exchDone 0 256 0, .exchDone 0 0 256, .reject 256 0 0, .reject 0 256 0,
      .reject 0 0 256] : List Instr).all (fun i => !i.wf) = true := by
  decide +kernel

/-- One for each check of the table writes. -/
theorem test_wf_refuses_writes : ([
      .unknownTable 256 0 0, .unknownTable 0 256 0, .unknownTable 0 0 256, .thresholdsWrite 256 0 {}, .thresholdsWrite
      0 256 {}, .thresholdsWrite 0 0 { sweepMs := some 65536 }, .unitsWrite 256 0 0 0, .unitsWrite 0 256 0 0,
      .unitsWrite 0 0 256 0, .unitsWrite 0 0 0 256, .ceilingRowsWrite 256 0 0 0 0 0, .ceilingRowsWrite 0 256 0 0 0 0,
      .ceilingRowsWrite 0 0 256 0 0 0, .ceilingRowsWrite 0 0 0 256 0 0, .ceilingRowsWrite 0 0 0 0 256 0,
      .ceilingRowsWrite 0 0 0 0 0 65536, .articleActiveWrite 256 0 ⟨0, 0, 0, 0, 0, 0, 0, 0, 0, 0⟩, .articleActiveWrite
      0 256 ⟨0, 0, 0, 0, 0, 0, 0, 0, 0, 0⟩, .articleActiveWrite 0 0 ⟨65536, 0, 0, 0, 0, 0, 0, 0, 0, 0⟩,
      .articleActiveWrite 0 0 ⟨0, 65536, 0, 0, 0, 0, 0, 0, 0, 0⟩, .articleActiveWrite 0 0 ⟨0, 0, 65536, 0, 0, 0, 0, 0,
      0, 0⟩, .articleActiveWrite 0 0 ⟨0, 0, 0, 65536, 0, 0, 0, 0, 0, 0⟩, .articleActiveWrite 0 0 ⟨0, 0, 0, 0,
      4294967296, 0, 0, 0, 0, 0⟩, .articleActiveWrite 0 0 ⟨0, 0, 0, 0, 0, 4294967296, 0, 0, 0, 0⟩, .articleActiveWrite
      0 0 ⟨0, 0, 0, 0, 0, 0, 4294967296, 0, 0, 0⟩, .articleActiveWrite 0 0 ⟨0, 0, 0, 0, 0, 0, 0, 4294967296, 0, 0⟩,
      .articleActiveWrite 0 0 ⟨0, 0, 0, 0, 0, 0, 0, 0, 4294967296, 0⟩, .articleActiveWrite 0 0 ⟨0, 0, 0, 0, 0, 0, 0,
      0, 0, 65536⟩, .articleNextWrite 256 0 ⟨0, 0, 0, 0, 0, 0, 0, 0, 0, 0⟩, .articleNextWrite 0 256 ⟨0, 0, 0, 0, 0, 0,
      0, 0, 0, 0⟩, .articleNextWrite 0 0 ⟨65536, 0, 0, 0, 0, 0, 0, 0, 0, 0⟩, .articleNextWrite 0 0 ⟨0, 65536, 0, 0, 0,
      0, 0, 0, 0, 0⟩, .articleNextWrite 0 0 ⟨0, 0, 65536, 0, 0, 0, 0, 0, 0, 0⟩, .articleNextWrite 0 0 ⟨0, 0, 0, 65536,
      0, 0, 0, 0, 0, 0⟩, .articleNextWrite 0 0 ⟨0, 0, 0, 0, 4294967296, 0, 0, 0, 0, 0⟩, .articleNextWrite 0 0 ⟨0, 0,
      0, 0, 0, 4294967296, 0, 0, 0, 0⟩, .articleNextWrite 0 0 ⟨0, 0, 0, 0, 0, 0, 4294967296, 0, 0, 0⟩,
      .articleNextWrite 0 0 ⟨0, 0, 0, 0, 0, 0, 0, 4294967296, 0, 0⟩, .articleNextWrite 0 0 ⟨0, 0, 0, 0, 0, 0, 0, 0,
      4294967296, 0⟩, .articleNextWrite 0 0 ⟨0, 0, 0, 0, 0, 0, 0, 0, 0, 65536⟩, .articleNextEmpty 256 0,
      .articleNextEmpty 0 256, .alertEnable 256 0 [], .alertEnable 0 256 [], .alertEnable 0 0 [(256, 0)], .alertEnable
      0 0 [(0, 256)], .spindleMapWrite 256 0 0 0 0, .spindleMapWrite 0 256 0 0 0, .spindleMapWrite 0 0 256 0 0,
      .spindleMapWrite 0 0 0 65536 0, .spindleMapWrite 0 0 0 0 256, .zoneTableWrite 256 0 0 ⟨0, 0, 0, 0, 0⟩,
      .zoneTableWrite 0 256 0 ⟨0, 0, 0, 0, 0⟩, .zoneTableWrite 0 0 256 ⟨0, 0, 0, 0, 0⟩, .zoneTableWrite 0 0 0 ⟨256, 0,
      0, 0, 0⟩, .zoneTableWrite 0 0 0 ⟨0, 256, 0, 0, 0⟩, .zoneTableWrite 0 0 0 ⟨0, 0, 256, 0, 0⟩, .zoneTableWrite 0 0
      0 ⟨0, 0, 0, 65536, 0⟩, .zoneTableWrite 0 0 0 ⟨0, 0, 0, 0, 65536⟩, .sectionTableWrite 256 0 0 ⟨0, 0, 0, 0, 0, 0,
      0⟩, .sectionTableWrite 0 256 0 ⟨0, 0, 0, 0, 0, 0, 0⟩, .sectionTableWrite 0 0 256 ⟨0, 0, 0, 0, 0, 0, 0⟩,
      .sectionTableWrite 0 0 0 ⟨256, 0, 0, 0, 0, 0, 0⟩, .sectionTableWrite 0 0 0 ⟨0, 256, 0, 0, 0, 0, 0⟩,
      .sectionTableWrite 0 0 0 ⟨0, 0, 65536, 0, 0, 0, 0⟩, .sectionTableWrite 0 0 0 ⟨0, 0, 0, 65536, 0, 0, 0⟩,
      .sectionTableWrite 0 0 0 ⟨0, 0, 0, 0, 65536, 0, 0⟩, .sectionTableWrite 0 0 0 ⟨0, 0, 0, 0, 0, 4294967296, 0⟩,
      .sectionTableWrite 0 0 0 ⟨0, 0, 0, 0, 0, 0, 4294967296⟩, .maskTableWrite 256 0 0 0 0, .maskTableWrite 0 256 0 0
      0, .maskTableWrite 0 0 65536 0 0, .maskTableWrite 0 0 0 65536 0, .maskTableWrite 0 0 0 0 256] : List Instr).all (fun i => !i.wf) = true := by
  decide +kernel

/-- One for each check of the reads and the management commands. -/
theorem test_wf_refuses_reads_and_commands : ([
      .readThresholds 256 0, .readThresholds 0 256, .lengthStatus 256 0, .lengthStatus 0 256, .piecingStatus 256 0,
      .piecingStatus 0 256, .doffStatus 256 0, .doffStatus 0 256, .ceilingStatus 256 0, .ceilingStatus 0 256,
      .shiftStatus 256 0, .shiftStatus 0 256, .busStatus 256 0, .busStatus 0 256, .lineStatus 256 0, .lineStatus 0
      256, .shiftClose 256 0, .shiftClose 0 256, .doffNow 256 0, .doffNow 0 256, .doffDefer 256 0, .doffDefer 0 256,
      .releaseDoff 256 0, .releaseDoff 0 256, .restart 256 0, .restart 0 256, .railStatus 256 0 0, .railStatus 0 256
      0, .railStatus 0 0 256, .creelStatus 256 0 0 0, .creelStatus 0 256 0 0, .creelStatus 0 0 65536 0, .creelStatus 0
      0 0 65536, .spindleRecords 256 0 0 0, .spindleRecords 0 256 0 0, .spindleRecords 0 0 65536 0, .spindleRecords 0
      0 0 65536, .presetBuild 256 0 0, .presetBuild 0 256 0, .presetBuild 0 0 4294967296, .spindleMask 256 0 0 0 0,
      .spindleMask 0 256 0 0 0, .spindleMask 0 0 65536 0 0, .spindleMask 0 0 0 65536 0, .spindleMask 0 0 0 0 256,
      .spindleUnmask 256 0 0 0, .spindleUnmask 0 256 0 0, .spindleUnmask 0 0 65536 0, .spindleUnmask 0 0 0 65536,
      .clearRed 256 0 0 0, .clearRed 0 256 0 0, .clearRed 0 0 65536 0, .clearRed 0 0 0 65536, .holdSet 256 0 0,
      .holdSet 0 256 0, .holdSet 0 0 256, .holdClear 256 0 0, .holdClear 0 256 0, .holdClear 0 0 256, .blockSet 256 0
      0, .blockSet 0 256 0, .blockSet 0 0 256, .blockClear 256 0 0, .blockClear 0 256 0, .blockClear 0 0 256,
      .autoHoldSet 256 0 0, .autoHoldSet 0 256 0, .autoHoldSet 0 0 256, .autoHoldClear 256 0 0, .autoHoldClear 0 256
      0, .autoHoldClear 0 0 256, .seqSet 256 0 0 false, .seqSet 0 256 0 false, .seqSet 0 0 256 false, .ceilingOverride
      256 0 none, .ceilingOverride 0 256 none, .ceilingOverride 0 0 (some 256), .releaseCeilingRow 256 0 0,
      .releaseCeilingRow 0 256 0, .releaseCeilingRow 0 0 256, .releaseSection 256 0 0, .releaseSection 0 256 0,
      .releaseSection 0 0 256, .passRead 256 0 0 0 0, .passRead 0 256 0 0 0, .passRead 0 0 256 0 0, .passRead 0 0 0
      256 0, .passRead 0 0 0 0 256, .passWrite 256 0 0 0 [], .passWrite 0 256 0 0 [], .passWrite 0 0 256 0 [],
      .passWrite 0 0 0 256 [], .passWrite 0 0 0 0 (List.replicate 239 0#8), .alertAck 256 0 [], .alertAck 0 256 [],
      .alertAck 0 0 [256], .sideReset 256 0 0, .sideReset 0 256 0, .sideReset 0 0 256] : List Instr).all (fun i => !i.wf) = true := by
  decide +kernel

/-! ### The hypotheses of the statements, met -/

theorem test_hyp_StepRunsFrontCommand : ({ base with pending := [.encoderPulse] } : State).pending = .encoderPulse :: [] :=
  rfl

/-- No event due, and one: LAMP_TEST sampled high five times, and side A's window at its end. -/
theorem test_hyp_EmptyQueueTicksTimeBase :
    (base.pending = [] ∧ ({ base with sbm := { base.sbm with cycleTimer := 10 } } : State).due = []) ∧
    (let s := (base.modDcu fun d => { d with inputs := { d.inputs with lampTest := ⟨true, 5⟩ } }).modRail .a fun r =>
        { r with windowTimer := some 0 };
      s.pending = [] ∧ ∃ i rest, s.due = i :: rest ∧ .lampTest true ∈ s.due ∧ .sweepClose .a ∈ s.due) :=
  ⟨⟨rfl, by decide +kernel⟩, rfl, _, _, rfl, by decide +kernel, by decide +kernel⟩

/-- A sweep start as the next command, from a state that meets each invariant. -/
def invariantState : State := { idle with pending := [.sweepStart .a], dcu := idle.drivenLines |> fun l => { idle.dcu with lines := l } }

theorem test_hyp_OutputLinesFollowFacts : invariantState.linesAgree ∧ ∃ t, step invariantState = .next t :=
  ⟨⟨by decide +kernel, by decide +kernel⟩, _, rfl⟩

theorem test_hyp_SentCeilingIsEffectiveCeiling : invariantState.ceilingAgrees ∧ ∃ t, step invariantState = .next t :=
  ⟨⟨by decide, by decide⟩, _, rfl⟩

theorem test_hyp_EveryPossibleOfferIsMade : invariantState.offersMade ∧ ∃ t, step invariantState = .next t :=
  ⟨by unfold State.offersMade; decide, _, rfl⟩

theorem test_hyp_QueuesStayWithinBounds : invariantState.listsBounded ∧ ∃ t, step invariantState = .next t :=
  ⟨by unfold State.listsBounded CreelUnit.sectionsOnce; decide, _, rfl⟩

/-- A new record of every spindle lies within any delivered length. -/
theorem spindle_of_reset (p : Nat) : (State.reset.spindle p).copMm + (State.reset.spindle p).provisionalMm = 0 := by
  simp only [State.spindle, State.reset, tget]
  split <;> simp

theorem test_hyp_CopCapIsKept : invariantState.copsCapped ∧
    (∀ i rest, invariantState.pending = i :: rest → i.wf = true) ∧ ∃ t, step invariantState = .next t := by
  refine ⟨⟨by decide, fun p => ?_, by decide⟩, ?_, _, rfl⟩
  · exact (spindle_of_reset p).symm ▸ Nat.zero_le _
  · intro i rest h
    injection h with h1 _
    rw [← h1]
    rfl

theorem test_hyp_RunningSweepsAreEvaluable : invariantState.runningCounted ∧ ∃ t, step invariantState = .next t :=
  ⟨by intro sd; cases sd <;> decide, _, rfl⟩

theorem test_hyp_PulseCounterCountsEveryPulse :
    (∃ t, exec (.sweepStart .a) base = .next t) ∧ Instr.sweepStart .a ≠ .encoderPulse ∧
      ∀ b, Instr.sweepStart .a ≠ .powerOn b :=
  ⟨⟨_, rfl⟩, by decide, by intro b h; cases h⟩

/-- The first and the last spindle of the side, and the three kinds of side. -/
theorem test_hyp_SweepStartOpensWindowWithItsMap :
    (let s := base.modRail .a fun r => { r with windowOpen := false };
      (s.railOf .a).installed ≠ 0 ∧ (s.railOf .a).windowOpen = false) ∧ (base.railOf .a).windowOpen = true ∧
    (base.railOf .b).installed = 0 ∧ (base.railOf .a).installed = 64 ∧ 0 < 64 ∧ 63 < (base.railOf .a).installed ∧
      (base.railOf .a).installed ≤ 1024 ∧ ∀ c ∈ channelNumbers, (base.channel c).inJob = false := by
  decide

theorem test_hyp_HeadAndHuntLimitsAct :
    (∃ s : State, 3 < (s.railOf .a).heads.length ∧ ((s.railOf .a).heads.getD 3 {}).state = .errored ∧
      ((s.railOf .a).heads.getD 3 {}).erroredRun = 3 ∧ s.mli.reports.length < 96) ∧
    ∃ s : State, (s.railOf .a).state = .hunt ∧ (s.railOf .a).huntCount = 7 ∧ (s.railOf .a).noGoodRun < 3 ∧
      s.mli.reports.length < 96 :=
  ⟨⟨base.modRail .a fun r => { r with heads := r.heads.set 3 ⟨.errored, 3, 0⟩ }, by decide⟩,
   ⟨base.modRail .a fun r => { r with state := .hunt, huntCount := 7, noGoodRun := 2 }, by decide⟩⟩

theorem test_hyp_SweepCloseUpdatesRail :
    (base.railOf .b).installed = 0 ∧ (base.railOf .a).installed ≠ 0 ∧ (base.railOf .a).windowOpen = true ∧
      base.mli.deferred = [] ∧ (base.railOf .a).window.length = (base.railOf .a).heads.length := by
  decide

theorem test_hyp_SweepCloseDeliversLength :
    (base.railOf .a).installed ≠ 0 ∧ (base.railOf .a).windowOpen = true ∧ base.mli.deferred = [] ∧
      base.dc.dofferReady = false ∧ (base.shiftSide .a).pending = false := by
  decide

theorem test_hyp_VerdictByCrossMultiplication :
    ({} : Thresholds).thrBreak < ({} : Thresholds).thrRun ∧ ({} : Thresholds).mppQ ≤ 65535 ∧
      ({} : Thresholds).thrRun ≤ 255 := by
  decide

/-- An evaluable verdict and none, on a record in any state. -/
theorem test_hyp_ClassificationFollowsStateTable :
    (∀ st : SpindleState, ({ state := st, verifyCount := some 2 } : Spindle).state = st) ∧
      evaluate {} 8 (some art) .forcedDown = some .below ∧ evaluate {} 7 (some art) (.count 300) = none ∧
      ({} : Thresholds).pMin ≤ 8 ∧ 7 < ({} : Thresholds).pMin ∧ (base.railOf .a).installed ≤ 1024 := by
  exact ⟨fun _ => rfl, by decide +kernel, by decide +kernel, by decide, by decide, by decide⟩

/-- An unmasked side, with a spindle in DOWN that stands in a queue and one that is the job of an OFFERED channel. -/
theorem test_hyp_MaskUnmaskAndClearRed :
    ∃ s : State, s.accepts ∧ s.names 0 63 ∧ ¬ s.names 0 64 ∧ maskKindOfCode 1 = some .operator ∧
      maskKindOfCode 4 = none ∧ s.quiet ∧
      (s.spindle 7).state = .piecing ∧ (s.channel 0).job = some 7 ∧ (s.channel 0).state = .offered ∧
      (∀ d ∈ channelNumbers, (s.channel d).job = some 7 → d = 0) ∧ (s.spindle 9).state = .down := by
  refine ⟨spin 7 .piecing (spin 9 .down (withChannel { state := .offered, job := some 7, offerPolls := some 0 } [9])), ?_⟩
  dsimp only [State.accepts, State.names, State.quiet]
  decide +kernel

theorem test_hyp_CopCreditAndRovingCharge :
    base.copsCapped ∧ 63 < 2048 ∧ 2047 < 2048 ∧ base.dc.active = none ∧ (doffIn .build).dc.active = some art := by
  refine ⟨⟨by decide, fun p => ?_, by decide⟩, by decide⟩
  exact (spindle_of_reset p).symm ▸ Nat.zero_le _

/-- In BUILD below and at the prewarn point, in NEAR_FULL at it, past the full target, and in RAMP. -/
theorem test_hyp_PresetBuildCapsCops :
    (∃ s : State, s.accepts ∧ s.quiet ∧ s.dc.state = .build ∧ 29499999 < s.dc.prewarnPoint ∧
      s.dc.prewarnPoint ≤ 29500000 ∧ 29500000 < s.dc.fullTarget ∧ s.dc.fullTarget < 30000001) ∧
    (∃ s : State, s.accepts ∧ s.quiet ∧ s.dc.state = .nearFull ∧ s.dc.prewarnPoint ≤ 29500000 ∧
      29999999 < s.dc.fullTarget ∧ 29499999 < s.dc.prewarnPoint ∧ s.dc.fullTarget = 30000000 ∧
      s.dc.dofferReady = false ∧ ∀ c ∈ channelNumbers, (s.channel c).holdPending = false) ∧
    ∃ s : State, s.accepts ∧ s.quiet ∧ s.dc.state ≠ .build ∧ s.dc.state ≠ .nearFull := by
  refine ⟨⟨doffIn .build, ?_⟩, ⟨doffIn .nearFull, ?_⟩, ⟨doffIn .ramp, ?_⟩⟩ <;>
  · dsimp only [State.accepts, State.quiet]
    decide +kernel

/-- A queue that chooses by travel, and one whose head has waited max_wait; a held channel with a queued spindle, whose
unit's slot is empty or not, and one whose carriage is not ready. -/
theorem test_hyp_ChannelChoosesByAgeThenTravel :
    (∀ m ∈ [none, some (BusMsg.park 0)],
      let s := spin 9 .down ((polling .carriage (withChannel { state := .idle, hold := true } [9])).modUnit 2
        fun u => { u with slot := m });
      s.accepts ∧ s.quiet ∧ s.choice 0 = some 9 ∧ (s.spindle 9).state = .down ∧ (s.channel 0).state = .idle ∧
        (s.zone 0).enabled = true ∧ (s.channel 0).block = false ∧ s.pd.protection = false ∧
        (s.channel 0).carriageReady = true ∧ (s.zone 0).address = some 2 ∧ (s.unit 2).state ≠ .absent ∧
        (s.unit 2).waiting = [] ∧ (s.unit 2).slot = m) ∧
    (let s := spin 9 .down (polling .carriage (withChannel { state := .idle, carriageReady := false } [9]));
      s.answersPoll poll .carriage false ∧ s.channelsAt 2 = [0] ∧ (s.channel 0).hold = false ∧
        (s.unit 2).slot = none ∧ (s.unit 2).waiting = [] ∧ s.choice 0 = some 9) ∧
    (withChannel { state := .idle, hold := true, position := 4, direction := .down } [9, 3]).choice 0 = some 3 ∧
      (let s := spin 9 .down (withChannel { state := .idle, hold := true, position := 4 } [9, 3]
        (base.modRail .a fun r => { r with sweepIndex := 600 }))
      s.choice 0 = some 9 ∧ s.thresholds.maxWait ≤ 600 - (s.spindle 9).downSince.getD 0) := by
  dsimp only [State.accepts, State.answersPoll, State.polls, State.quiet]
  decide +kernel

/-- A queue short of 64, and one of 64 with a spindle that is not in it; a zone with a DOWN spindle to take in; a RED and
a DOWN spindle that the latest count has counted. -/
theorem test_hyp_InsertionKeepsQueueByAge :
    (∀ st ∈ [SpindleState.red, .down],
      let s := { spin 63 st with pd := { base.pd with downLoad := ⟨⟨[63], [], [63], []⟩, {}⟩ } };
      s.accepts ∧ s.quiet ∧ s.names 63 63 ∧ (s.spindle 63).state = st ∧ maskKindOfCode 1 = some .operator ∧
        63 ∈ (s.pd.downLoad.get (sideOf 63)).falsePieces) ∧
    (let s := spin 63 .down (withChannel {} []);
      (s.zone 0).last < 2048 ∧ (s.spindle 63).state = .down ∧ (s.spindle 63).queued = false ∧
        (s.breakQueue 0).length + 1 ≤ 64) ∧
    ∃ s : State, 3 < 4 ∧ 100 < 2048 ∧ (s.breakQueue 3).length = 64 ∧ 100 ∉ s.breakQueue 3 ∧ 2047 ∉ s.breakQueue 0 ∧
      s.breakQueue 0 = [] ∧ (∀ q ∈ s.breakQueue 3, q < 2048 ∧ (s.spindle q).queued = true) ∧
      (s.spindle 100).queued = false ∧ (s.spindle 2047).queued = true ∧
      (s.breakQueue 3).Pairwise (fun x y => s.older x y = true) :=
  ⟨by dsimp only [State.accepts, State.quiet, State.names]; decide +kernel, by decide +kernel,
    ({ base with spindles := Vector.replicate 2048 { state := .down, queued := true } }.setSpindle 100 {}).setQueue 3
    (List.range 64), by decide +kernel⟩

/-- An OFFERED channel without block, asked with its own seq; a BUSY one; an IDLE one with an empty queue. -/
theorem test_hyp_CarriageMessagesActByState :
    (∃ s : State, s.answersPoll poll .carriage false ∧ s.channelsAt 2 = [0] ∧ (s.channel 0).state = .offered ∧
      (s.channel 0).block = false ∧ (s.channel 0).seq = true) ∧
    (∃ s : State, s.answersPoll poll .carriage false ∧ s.channelsAt 2 = [0] ∧ (s.channel 0).state = .busy) ∧
    (∃ s : State, s.answersPoll poll .carriage false ∧ s.channelsAt 2 = [0] ∧ (s.channel 0).state = .idle ∧
      s.breakQueue 0 = []) ∧
    (∀ n ∈ [0, 1], ∀ b ∈ [true, false],
      let s := polling .carriage (withChannel { state := .offered, job := some 7, block := b, offerPolls := some n } []);
      s.answersPoll poll .carriage false ∧ s.channelsAt 2 = [0] ∧ (s.channel 0).state = .offered ∧
        (s.channel 0).block = b ∧ (s.channel 0).seq = false ∧ (s.channel 0).offerPolls.getD 0 = n ∧ poll.msg = none) ∧
    (let x : Exchange := ⟨2, false, some (.job 0 7 false), none, none⟩;
      let s := polling .carriage (withChannel { state := .offered, job := some 7, offerPolls := some 0 } []) x;
      s.answersPoll x .carriage false ∧ s.channelsAt 2 = [0] ∧ (s.channel 0).job = some 7 ∧ (s.channel 0).seq = false) := by
  refine ⟨⟨polling .carriage (withChannel { state := .offered, job := some 7, seq := true, offerPolls := some 0 } []), ?_⟩,
    ⟨polling .carriage (withChannel { state := .busy, job := some 7 } []), ?_⟩,
    ⟨polling .carriage (withChannel { state := .idle, carriageReady := false } []), ?_⟩, ?_, ?_⟩ <;>
  · dsimp only [State.answersPoll, State.polls, State.quiet]
    decide +kernel

theorem test_hyp_DoneEndsJobByOutcome :
    (∀ x ∈ [({ holdPending := true } : Channel), { autoHold := true }, { carriageReady := false }, { block := true }],
      let s := spin 63 .piecing (polling .carriage (withChannel { x with state := .busy, job := some 63 } []));
      s.answersPoll poll .carriage false ∧ s.channelsAt 2 = [0] ∧ s.channel 0 = { x with state := .busy, job := some 63 } ∧
        s.pd.protection = false ∧ s.dc.state ≠ .full ∧ (s.spindle 63).state = .piecing ∧ s.zoneOf 63 = some 0) ∧
    (∀ x ∈ [({ holdPending := true } : Channel), { carriageReady := false }, { block := true }],
      let s := polling .carriage (withChannel { x with state := .cancelling, seq := true } []);
      s.answersPoll poll .carriage false ∧ s.channelsAt 2 = [0] ∧ s.channel 0 = { x with state := .cancelling, seq := true } ∧
        s.pd.protection = false ∧ s.dc.state ≠ .full) ∧
    ∀ st ∈ [ChannelState.offline, .idle, .offered, .busy, .cancelling], ∀ b ∈ [true, false],
      let s := polling .carriage (withChannel { state := st, block := b } []);
      s.answersPoll poll .carriage false ∧ s.channelsAt 2 = [0] ∧ (s.channel 0).state = st ∧ (s.channel 0).block = b ∧
        (s.channel 0).seq = false ∧ (s.channel 0).offerPolls.getD 0 = 0 ∧ poll.msg = none := by
  refine ⟨?_, ?_, ?_⟩ <;>
  · dsimp only [State.answersPoll, State.polls, State.quiet]
    decide +kernel

/-- An offer with its second and with its third miss to come, of a channel that a doff will hold, of one that is not ready
and, before the third miss, of one that is neither. -/
theorem test_hyp_UnansweredOfferIsWithdrawn :
    ∀ x ∈ [({ holdPending := true } : Channel), { carriageReady := false }, { holdPending := true, offerMisses := 1 },
        { offerMisses := 2 }],
      let y : Channel := { x with state := .offered, job := some 63, offerPolls := some 2 }
      let s := spin 63 .piecing (withChannel y []);
      s.quiet ∧ s.channel 0 = y ∧ (y.holdPending = true ∨ y.carriageReady = false ∨ 2 ≤ y.offerMisses) ∧
        (s.spindle 63).state = .piecing ∧ (s.spindle 63).queued = false ∧ s.zoneOf 63 = some 0 ∧
        (s.breakQueue 0).length < 64 ∧ s.pd.protection = false ∧ s.dc.state ≠ .full ∧ s.mli.reports.length < 96 := by
  dsimp only [State.quiet]
  decide +kernel

/-- The unit's slot empty, with the channel's own JOB, carried or not, and with another channel's. -/
theorem test_hyp_ChannelTimersCancelAndRelease :
    (∀ m ∈ [none, some (BusMsg.job 0 63 false), some (.job 1 9 true)], ∀ b ∈ [true, false],
      let s := (spin 63 .piecing (polling .carriage (withChannel { state := .busy, job := some 63 } []))).modUnit
        2 fun u => { u with slot := m, carried := b };
      s.quiet ∧ (s.channel 0).state = .busy ∧ (s.channel 0).job = some 63 ∧ (s.spindle 63).state = .piecing ∧
      s.zoneOf 63 = some 0 ∧ (s.spindle 63).queued = false ∧ (s.breakQueue 0).length < 64 ∧
      (s.zone 0).address = some 2 ∧ (s.unit 2).state ≠ .absent ∧ (s.unit 2).slot = m ∧ (s.unit 2).carried = b ∧
      (s.unit 2).waiting = []) ∧
    (∀ x ∈ [({ holdPending := true } : Channel), { carriageReady := false }],
      let s := withChannel { x with state := .cancelling } [9];
      s.quiet ∧ s.channel 0 = { x with state := .cancelling } ∧ s.breakQueue 0 = [9] ∧ s.pd.protection = false ∧
        s.dc.state ≠ .full) ∧
    ∃ s : State, s.quiet ∧ s.dc.state = .full ∧ s.dc.clearTimer.isSome = true ∧ (s.channel 0).state = .busy ∧
      ∀ c ∈ channelNumbers, (s.channel c).state = .idle → (s.channel c).hold = true := by
  refine ⟨?_, ?_,
    ⟨(doffIn .full (withChannel { state := .busy, job := some 63 } [])).modDoff fun d => { d with clearTimer := some 1 }, ?_⟩⟩ <;>
  · dsimp only [State.quiet]
    decide +kernel

/-- A channel in every state that a clause takes, with nothing queued, and the three refusals. -/
theorem test_hyp_ChannelControlSetsItsPartsOrRefuses :
    (∀ st ∈ [ChannelState.idle, .offline, .offered, .busy, .cancelling],
      let s := withChannel { state := st, job := some 63 } [];
      s.accepts ∧ s.quiet ∧ s.pd.protection = false ∧ s.breakQueue 0 = [] ∧ (s.channel 0).state = st ∧
        (s.channel 0).offlineCause ≠ some .misses) ∧
    (let s : State := { base with pd := { base.pd with protection := true } };
      s.accepts ∧ s.pd.protection = true ∧ 3 < 4) := by
  dsimp only [State.accepts, State.quiet]
  decide +kernel

/-! Doff -/

theorem test_hyp_DoffCallTakesFrameFull :
    ((base.modDcu fun d => { d with lines := { d.lines with doffCall := true } }).dcu.lines.doffCall = true) ∧
    (∀ d ∈ [DoffState.build, .nearFull, .full, .doffing], let s := doffIn d (withChannel { state := .idle } []);
      s.accepts ∧ s.quiet ∧ s.dc.state = d ∧ s.dc.dofferReady = false ∧ s.dcu.lines.doffCall = false ∧
        s.pd.protection = false ∧
        ∀ c ∈ channelNumbers, (s.channel c).state = .idle ∨ (s.channel c).state = .offline →
          (s.channel c).holdPending = false) := by
  dsimp only [State.accepts, State.quiet]
  decide +kernel

theorem test_hyp_DoffFaultsAreEntered :
    (let s := (doffIn .full).modDoff fun d => { d with stopTimer := some 1 };
      s.quiet ∧ s.dc.state = .full ∧ s.dc.stopTimer.isSome = true) ∧
    (let s := (doffIn .doffing).modDoff fun d => { d with doffTimer := some 1 };
      s.quiet ∧ s.dc.state = .doffing ∧ s.dc.doffTimer.isSome = true) ∧
    (∀ d ∈ [DoffState.doffing, .nearFull], let s := polling .doffer (doffIn d);
      s.answersPoll poll .doffer false ∧ s.channelsAt 2 = [] ∧ s.dc.state = d) := by
  dsimp only [State.answersPoll, State.polls, State.quiet]
  decide +kernel

/-- The drive at bus address 1 stopped at the doff position. -/
def driveAtDoff (s : State) : State :=
  { s with
    sbm := { s.sbm with units := s.sbm.units.set 0 { role := .drive, state := .online } }
    dcu := { s.dcu with lastActual := some ⟨.stop, true, true, false⟩ }
    dc := { s.dc with driveAtDoff := true } }

theorem test_hyp_ReadyDofferBeginsDoff :
    (∀ d ∈ [DoffState.nearFull, .build], let s := polling .doffer (doffIn d);
      s.answersPoll poll .doffer false ∧ s.channelsAt 2 = [] ∧ s.dc.state = d) ∧
    (let s := polling .doffer (doffIn .full);
      s.answersPoll poll .doffer false ∧ s.channelsAt 2 = [] ∧ s.dc.state = .full ∧ s.dc.driveAtDoff = false) ∧
    (let s := spin 63 .down (driveAtDoff (polling .doffer (doffIn .full)));
      s.installed 63 = true ∧ (s.spindle 63).state = .down ∧ s.addressOf .doffer = some 2) ∧
    (let s := driveAtDoff (polling .doffer (doffIn .full));
      s.answersPoll poll .doffer false ∧ s.channelsAt 2 = [] ∧ s.dc.state = .full ∧ s.dc.driveAtDoff = true ∧
        s.dc.carriagesClear = true ∧ s.installed 63 = true) := by
  dsimp only [State.answersPoll, State.polls, State.quiet]
  decide +kernel

/-- The settle close that resumes the spindles, the one that begins RAMP below the ramp length, and at it; a counted settle
close and one that is not, with a spare pulse and without one; RAMP at the ramp length and below it. -/
theorem test_hyp_DoffEndsThroughSettle :
    (let s := polling .doffer (doffIn .doffing);
      s.answersPoll poll .doffer false ∧ s.channelsAt 2 = [] ∧ s.dc.state = .doffing) ∧
    (let s := polling .doffer (doffIn .full);
      s.answersPoll poll .doffer false ∧ s.channelsAt 2 = [] ∧ s.dc.state ≠ .doffing) ∧
    (∀ b ∈ [true, false],
      let s := (doffIn .settle).modDoff fun d => { d with settleCount := 4, settlePaused := some b, delivered := 299999 };
      s.quiet ∧ s.dc.state = .settle ∧ s.dc.settleCount + 1 = s.thresholds.settleSweeps ∧
        s.thresholds.settleSweeps ≤ 15 ∧ s.dc.settlePaused = some b ∧ s.dc.active = some art ∧
        s.dc.delivered < art.rampM * 1000) ∧
    (let s := (doffIn .settle).modDoff fun d => { d with settleCount := 4, settlePaused := some false, delivered := 300000 };
      s.quiet ∧ s.dc.state = .settle ∧ s.dc.settleCount + 1 = s.thresholds.settleSweeps ∧
        art.rampM * 1000 ≤ s.dc.delivered ∧ s.dc.delivered < s.dc.prewarnPoint) ∧
    (∀ n ∈ [7, 8], let s := (doffIn .settle).modLength .a fun x => { x with lastP := n };
      s.dc.state = .settle ∧ .a = s.countingSide ∧ s.dc.settleCount + 1 < s.thresholds.settleSweeps ∧
        s.thresholds.settleSweeps ≤ 15 ∧
        if n = 8 then s.thresholds.pMin ≤ (s.lengthSide .a).lastP else (s.lengthSide .a).lastP < s.thresholds.pMin) ∧
    (∀ n ∈ [299999, 300000], let s := (doffIn .ramp).modDoff fun d => { d with delivered := n };
      s.dc.state = .ramp ∧ s.dc.active = some art ∧ .a = s.countingSide ∧ .b ≠ s.countingSide ∧
        s.dc.delivered < s.dc.prewarnPoint ∧
        if n = 300000 then art.rampM * 1000 ≤ s.dc.delivered else s.dc.delivered < art.rampM * 1000) := by
  dsimp only [State.answersPoll, State.polls, State.quiet]
  refine ⟨?_, ?_, ?_, ?_, ?_, ?_⟩ <;> decide +kernel

theorem test_hyp_DoffDeferAndReleaseLeaveTheirStates :
    (∀ d ∈ [DoffState.nearFull, .full],
      let s := (doffIn d).modDoff fun x => { x with delivered := 30499999 };
      s.accepts ∧ s.quiet ∧ s.dc.active = some art ∧ s.dc.state = d ∧ s.dc.deferTaken = false ∧ s.dc.deferExt = 0 ∧
        s.dc.delivered < art.fullCopM * 1000 + art.deferM * 1000 - art.prewarnM * 1000) ∧
    (let s := (doffIn .full).modDoff fun x => { x with delivered := 31000000 };
      s.accepts ∧ s.quiet ∧ s.dc.active = some art ∧ s.dc.fullTarget + art.deferM * 1000 ≤ s.dc.delivered) ∧
    (let s := doffIn .build;
      s.accepts ∧ s.quiet ∧ s.dc.active = some art ∧ s.dc.state ≠ .nearFull ∧ s.dc.state ≠ .full ∧
        s.dc.state ≠ .doffFault) ∧
    (∀ o ∈ [DoffOrigin.full, .doffing], let s := (doffIn .doffFault).modDoff fun x => { x with origin := some o };
      s.accepts ∧ s.quiet ∧ s.dc.state = .doffFault ∧ s.dc.dofferReady = false ∧ s.dc.origin = some o ∧
        ∀ c ∈ channelNumbers, (s.channel c).state = .idle → (s.channel c).holdPending = false) := by
  dsimp only [State.accepts, State.quiet]
  decide +kernel

/-! Creel -/

/-- Section 63 over the first eight spindles in a state, with a transport station or without one. -/
def sectionIn (st : SectionState) (station : Nat) (s : State := base) : State :=
  { s.setSection 63 { config := ⟨true, .a, 0, 7, 2, 200, 20⟩, state := st, transportTimer := some 1, backoffTimer := some 1 } with
    thresholds := { s.thresholds with transportStation := station } }

theorem test_hyp_TransportAnswersMoveSection :
    (∀ st ∈ [SectionState.requested, .low, .stalled, .exchanging, .supplied], let s := sectionIn st 9;
      s.thresholds.transportStation ≠ 0 ∧ 9 = s.thresholds.transportStation ∧ 63 < 64 ∧
        (s.creelSection 63).state = st ∧ (s.creelSection 63).config.enabled = true) ∧
    (let s := doffIn .build (sectionIn .exchanging 9);
      s.dc.active = some art ∧ (s.creelSection 63).config.enabled = true ∧ (s.creelSection 63).config.last < 2048) ∧
    (base.creelSection 0).config.enabled = false ∧ base.thresholds.transportStation = 0 ∧
    (let s := doffIn .build { base with thresholds := { base.thresholds with transportStation := 9 } };
      s.thresholds.transportStation = 9 ∧ s.dc.active = some art ∧ (s.creelSection 63).config.enabled = false) := by
  decide +kernel

theorem test_hyp_CreelTimersResendStallAndFail :
    (∀ n ∈ [0, 2, 3], let s := (sectionIn .requested 9).modSection 63 fun x => { x with resendCount := n };
      (s.creelSection 63).transportTimer.isSome = true ∧ (s.creelSection 63).state = .requested ∧
        (s.creelSection 63).resendCount = n ∧ s.thresholds.transportStation ≠ 0 ∧ s.mli.transport.length < 8) ∧
    (∀ station ∈ [0, 9],
      let s := ((sectionIn .low station).setSection 1 { state := .requested }).modCreel fun c =>
        { c with queue := [⟨63, false, 1⟩] };
      (s.creelSection 63).backoffTimer.isSome = true ∧ (s.creelSection 63).state = .low ∧
        s.thresholds.transportStation = station ∧ s.requestedCount = 1 ∧ s.mli.transport.length < 8 ∧
        (s.cc.transportQueue.head?.map (·.row)) = some 63) ∧
    (let s := base.modCreel fun c => { c with changeTimer := some 1, inFlight := some 2047 };
      s.cc.changeTimer.isSome = true ∧ s.cc.inFlight = some 2047 ∧ s.cc.waiting = [] ∧ s.mli.reports.length < 96) := by
  decide +kernel

theorem test_hyp_CreelChangerLoadsOrFails :
    ∀ f ∈ [some 63, some 0, none],
      let s := (polling .creelChanger (doffIn .build)).modCreel fun c => { c with inFlight := f };
      s.answersPoll poll .creelChanger false ∧ s.channelsAt 2 = [] ∧ s.cc.waiting = [] ∧ s.mli.reports.length < 96 ∧
        s.installed 63 = true ∧ s.dc.active = some art ∧ s.cc.inFlight = f ∧ s.installed 64 = false := by
  dsimp only [State.answersPoll, State.polls, State.quiet]
  decide +kernel

/-- A SUPPLIED section below its trigger of 2, and one at it; a STALLED one, and others. -/
theorem test_hyp_StalledSectionReturnsToLow :
    (∀ n ∈ [1, 2], let s := (List.range n).foldl (fun x p => x.setBobbin p { state := .emptyEst }) (sectionIn .supplied 0);
      (s.creelSection 63).state = .supplied ∧ (s.creelSection 63).config.triggerCount = 2 ∧ s.mli.reports.length < 96 ∧
        ((List.range 8).filter fun p => (s.bobbin p).state == .emptyEst).length = n) ∧
    (let s := (sectionIn .stalled 0).modCreel fun c => { c with stalled := [63] };
      s.accepts ∧ (s.creelSection 63).state = .stalled ∧ s.thresholds.transportStation = 0 ∧
        s.dcu.lines.creelDone = false ∧ s.cc.stalled.head? = some 63) ∧
    (base.accepts ∧ (base.creelSection 63).state ≠ .stalled ∧ 63 < 64 ∧ base.cc.stalled = []) := by
  dsimp only [State.accepts]
  decide +kernel

/-! Ceiling and shift -/

theorem test_hyp_PanelStopAndLampTestAct :
    base.dcu.lines.panelStop ≠ true ∧ base.dcu.lines.panelStop = false ∧ (base.ceilingRow .panelStop).cause = false ∧
      (base.ceilingRow .panelStop).enable = true ∧ (base.ceilingRow .panelStop).mode = some .stop ∧
      base.dcu.reevaluate = false := by
  decide

theorem test_hyp_CeilingRowsFollowCommandsAndDwell :
    (base.accepts ∧ modeOfCode 4 = some .full ∧ rowOfCode 7 = some .overrideRow ∧ 7 < 8 ∧ 4 < 5 ∧
      (base.ceilingRow .overrideRow).active = false ∧ (base.ceilingRow .overrideRow).cause = false ∧
      base.dcu.reevaluate = false ∧ (base.ceilingRow .overrideRow).latched = false) ∧
    (let s := base.setRow .railA { active := true, latched := true, lock := true };
      s.accepts ∧ rowOfCode 0 = some .railA ∧ (s.ceilingRow .railA).latched = true) ∧
    (let s := base.setRow .overrideRow { active := true, cause := true, dwellCount := 3 };
      s.accepts ∧ (s.ceilingRow .overrideRow).active = true) ∧
    (base.modDcu fun d => { d with reevaluate := true }).dcu.reevaluate = true ∧
    ∃ s : State, s.dcu.reevaluate = false ∧ (s.ceilingRow .railA).active = true ∧ (s.ceilingRow .railA).latched = false ∧
      (s.ceilingRow .railA).cause = false ∧ (s.ceilingRow .railA).dwellMin = (s.ceilingRow .railA).dwellCount + 1 ∧
      (s.ceilingRow .railA).dwellMin ≤ 255 ∧ s.mli.reports.length < 96 := by
  refine ⟨?_, ?_, ?_, rfl, base.setRow .railA { active := true, dwellCount := 254, dwellMin := 255 }, ?_⟩
  · dsimp only [State.accepts]
    decide
  · dsimp only [State.accepts]
    decide
  · dsimp only [State.accepts]
    decide
  · decide

theorem test_hyp_DriveReportsAndLimits :
    (let x : Exchange := ⟨2, false, none, none, some ⟨.stop, false, false⟩⟩;
      let s := (polling .drive base x).modDcu fun d => { d with disobey := 2 };
      s.answersPoll x .drive false ∧ s.channelsAt 2 = [] ∧ s.addressOf .drive = some 2 ∧ s.dc.state ≠ .full ∧
        s.dcu.disobey = 2 ∧ modeRank .stop < modeRank .crawl ∧ s.sbm.current = some x ∧ s.mli.reports.length < 96) ∧
    (let s := base.modDcu fun d => { d with graceTimer := some 1 };
      s.dcu.graceTimer.isSome = true ∧ s.mli.reports.length < 96) := by
  dsimp only [State.answersPoll, State.polls, State.quiet]
  decide +kernel

theorem test_hyp_ShiftCloseMarksOrClosesSides :
    (base.accepts ∧ (base.shiftSide .a).pending = false ∧ (base.shiftSide .b).pending = false ∧
      (base.railOf .a).installed ≠ 0 ∧ (base.railOf .b).installed = 0) ∧
    (let s := base.modShift .a fun x => { x with pending := true };
      s.accepts ∧ (s.shiftSide .a).pending = true) := by
  dsimp only [State.accepts]
  decide

/-- A block with evaluable time, whose rate is trim_on, and one without. -/
theorem test_hyp_RateBlockEndHandsRate :
    ∀ e ∈ [60000, 0], let s := base.modShift .a fun x => { x with block := ⟨299, 1, e, e * 1000⟩ };
      let b := (s.shiftSide .a).block;
      (s.railOf .a).installed ≠ 0 ∧ b.count + 1 = s.thresholds.blockSweeps ∧ s.thresholds.blockSweeps ≤ 3600 ∧
        b.ends ≤ 4294967295 ∧ b.evaluable ≤ 4294967295 ∧ b.evaluableMs < 2 ^ 64 ∧
        s.thresholds.trimOff < s.thresholds.trimOn ∧ b.evaluable = e ∧
        ((s.setRow .breakRate { cause := true }).ceilingRow .breakRate).cause = true := by
  decide +kernel

theorem test_hyp_ShiftCountsClosesAndDerivesFigures :
    (base.shiftSide .a).pending = false ∧ ((base.modShift .a fun x => { x with pending := true }).shiftSide .a).pending = true ∧
    ∃ r : ShiftRecord, r.running ≤ r.evaluable ∧ r.evaluable ≠ 0 ∧ r.evaluableMs = r.evaluable * 1000 ∧
      r.evaluableMs ≠ 0 ∧ r.efficiency = some 1000 :=
  ⟨rfl, rfl, { running := 4, evaluable := 4, evaluableMs := 4000 }, by decide⟩

/-! Service bus -/

theorem test_hyp_PollCycleServesEveryUnitOnce : base.sbm.pass = none := rfl

theorem test_hyp_GoodAnswerFramesAreTaken :
    (List.replicate 19 (0#8 : Byte)).length ≤ 19 ∧ (∀ body : List Byte, [0x00#8] ≠ 0x7E#8 :: body ++ crcBytes body) ∧
    (∀ r ∈ [Role.doffer, .creelChanger, .drive], let s := polling r base;
      s.polls poll r ∧ s.quiet ∧ s.sbm.pass = none ∧ s.channelsAt 2 = [] ∧ (s.unit 2).causeFlag = false) ∧
    (let x : Exchange := ⟨2, false, some .doffStart, none, none⟩;
      let s := (polling .doffer base x).modUnit 2 fun u => { u with slot := some .doffStart, carried := true };
      x.msg = some .doffStart ∧ (s.unit 2).slot = x.msg ∧ (s.unit 2).carried = true ∧ (s.unit 2).waiting = []) ∧
    (let x : Exchange := ⟨2, true, none, none, none⟩;
      ∀ r ∈ [Role.doffer, .carriage], ∀ b ∈ [0, 1, 2],
        let s := (polling r (withChannel { state := .offline, offlineCause := some .unit, hold := b == 0, block := b == 1 }
          (if b = 2 then [] else [9])) x).modUnit 2 fun u => { u with state := .offline };
        s.sbm.current = some x ∧ (s.unit 2).state = .offline ∧ (s.unit 2).role = r ∧ s.quiet ∧ s.sbm.pass = none ∧
          s.mli.reports.length < 95 ∧ s.channelsAt 2 = [0] ∧ (s.channel 0).state = .offline ∧
          (s.channel 0).offlineCause = some .unit ∧ (s.channel 0).holdPending = false ∧
          ((s.channel 0).hold = true ∨ (s.channel 0).block = true ∨ s.breakQueue 0 = []) ∧ s.pd.protection = false ∧
          s.dc.state ≠ .full) ∧
    (let x : Exchange := ⟨2, true, none, none, none⟩;
      ∀ r ∈ [Role.drive, .creelChanger], ∀ w ∈ [[], [5], [5, 6]],
        let s := ((polling r (doffIn .full) x).modUnit 2 fun u => { u with state := .offline }).modCreel
          fun c => { c with waiting := w };
        s.sbm.current = some x ∧ (s.unit 2).state = .offline ∧ (s.unit 2).role = r ∧ s.addressOf r = some 2 ∧ s.quiet ∧
          s.sbm.pass = none ∧ s.mli.reports.length < 95 ∧ s.channelsAt 2 = [] ∧ s.dc.dofferReady = false ∧
          s.cc.inFlight = none ∧ s.cc.waiting = w ∧ (s.unit 2).slot = none ∧ (s.unit 2).waiting = []) := by
  refine ⟨by decide, ?_, ?_, ?_, ?_, ?_⟩
  · intro body h
    have h1 := List.head_eq_of_cons_eq h
    exact absurd h1 (by decide)
  all_goals
    dsimp only [State.polls, State.quiet]
    decide +kernel

theorem test_hyp_MissedPollsTakeUnitOffline :
    (let s := (polling .doffer base).modUnit 2 fun u => { u with missedPolls := 1 };
      s.polls poll .doffer ∧ (s.unit 2).missedPolls < 2 ∧ s.quiet ∧ s.sbm.pass = none ∧ s.channelsAt 2 = []) ∧
    (∀ r ∈ [Role.doffer, .drive],
      let s := ((polling r base).modUnit 2 fun u => { u with missedPolls := 2 }).modSbm fun b => { b with current := none };
      (s.unit 2).role = r ∧ (s.unit 2).state = .online ∧ (s.unit 2).missedPolls = 2 ∧ s.quiet ∧ s.sbm.pass = none ∧
        s.sbm.current = none ∧ s.mli.reports.length < 96 ∧ s.dc.state ≠ .doffing ∧ s.dc.state ≠ .full ∧
        s.addressOf r = some 2) ∧
    (∀ r ∈ [Role.doffer, .creelChanger],
      let s := (((polling r (doffIn .doffing)).modUnit 2 fun u => { u with missedPolls := 2 }).modSbm
        fun b => { b with current := none }).modCreel fun c => { c with inFlight := some 5 };
      (s.unit 2).role = r ∧ (s.unit 2).state = .online ∧ (s.unit 2).missedPolls = 2 ∧ s.quiet ∧ s.sbm.pass = none ∧
        s.sbm.current = none ∧ s.mli.reports.length < 94 ∧ s.addressOf r = some 2 ∧ s.dc.state = .doffing) ∧
    (∀ st ∈ [ChannelState.idle, .offered, .busy, .cancelling],
      let s := spin 63 .piecing (((polling .carriage (withChannel { state := st, job := some 63 } [])).modUnit 2
        fun u => { u with missedPolls := 2 }).modSbm fun b => { b with current := none });
      (s.unit 2).role = .carriage ∧ (s.unit 2).state = .online ∧ s.quiet ∧ s.sbm.pass = none ∧
        s.channelsAt 2 = [0] ∧ (s.channel 0).state = st ∧ s.dc.state ≠ .full ∧ (s.zone 0).enabled = true ∧
        (s.spindle 63).state = .piecing ∧ s.zoneOf 63 = some 0 ∧ (s.breakQueue 0).length < 64) ∧
    ∀ d ∈ channelNumbers, d ≠ 0 →
      ((withChannel {} []).setChannel d { hold := true }).channel d = { hold := true } := by
  dsimp only [State.polls, State.quiet]
  decide +kernel

theorem test_hyp_PassThroughTakesItsSlotAndEnds :
    (let s := polling .carriage base;
      s.accepts ∧ s.sbm.pass = none ∧ (s.unit 2).state = .online ∧ (s.unit 7).state ≠ .online ∧ (s.unit 2).slot = none) ∧
    (∀ k ∈ [0, 2], let x : Exchange := ⟨2, false, some (.passRead 255 16), none, none⟩;
      let s := (polling .doffer base x).modSbm fun b => { b with pass := some ⟨9, 1, .read 16, 2, 255, some k⟩ };
      s.accepts ∧ s.sbm.pass.isSome = true ∧ s.polls x .doffer ∧ (s.unit 2).causeFlag = false ∧ s.quiet ∧
        s.channelsAt 2 = [] ∧ s.mli.replies.length < 8 ∧ x.msg = some (.passRead 255 16)) ∧
    (let x : Exchange := ⟨2, false, some (.passWrite 255 [0]), none, none⟩;
      let s := (polling .doffer base x).modSbm fun b => { b with pass := some ⟨9, 1, .write [0], 2, 255, some 0⟩ };
      s.polls x .doffer ∧ s.quiet ∧ s.mli.replies.length < 8 ∧ x.msg = some (.passWrite 255 [0])) ∧
    (let s := ((polling .doffer base).modUnit 2 fun u => { u with missedPolls := 2 }).modSbm
        fun b => { b with current := none, pass := some ⟨9, 1, .read 16, 2, 255, none⟩ };
      (s.unit 2).state = .online ∧ (s.unit 2).role = .doffer ∧ (s.unit 2).missedPolls = 2 ∧ s.dc.state ≠ .doffing ∧
        s.quiet ∧ s.sbm.current = none ∧ s.mli.replies.length < 8 ∧ s.mli.reports.length < 96) := by
  dsimp only [State.accepts, State.polls, State.quiet]
  decide +kernel

/-! Mill line -/

theorem test_hyp_LinkFollowsWhatIsHeard :
    base.mli.restartArmed = false ∧ base.mli.reports.length < 96 ∧ (base.mli.port .upstream).up = true ∧
      (base.mli.port .downstream).up = false := by
  decide

/-- A frame of the part's own station (an EXCHANGE_REQUEST and one of the unlisted types), one of another, one that is
no frame. -/
theorem test_hyp_MillFrameIsForwardedOrTakenIn :
    (base.mli.port .upstream).up = true ∧ base.mli.station ≠ 0 ∧
      (∀ f : MillFrame, f.payload.length ≤ 255 → [] ≠ encodeMillFrame f) ∧
      (∀ y ∈ [0x10#8, 0x00#8, 0x0F#8, 0x15#8, 0xFF#8], (⟨5, 9, y, []⟩ : MillFrame).dest.toNat = base.mli.station.toNat) ∧
      (⟨6, 9, 1, []⟩ : MillFrame).dest.toNat ≠ base.mli.station.toNat ∧ invariantState.linesAgree :=
  ⟨rfl, by decide, by intro f _; simp [encodeMillFrame], by decide, by decide, by decide +kernel, by decide +kernel⟩

theorem test_hyp_TransmittersTakeTurns :
    ∃ s : State, s.mli.restartArmed = false ∧ s.mli.toUpstream = [[0x7E#8]] ∧ s.mli.lastOwn = false ∧
      s.mli.upstream.up = true ∧ s.mli.replies = [mkReply 9 1 0x40 .ok .none] ∧
      (mkReply 9 1 0x40 .ok .none).data = .none ∧ (mkReply 9 1 0x4A .ok (.pass 0 [1])).data = .pass 0 [1] ∧ (s.alert .railFault).send = true ∧
      (∀ d : AlertCause, d.code < AlertCause.code .railFault → (s.alert d).send = false) := by
  refine ⟨(base.modMli fun m =>
    { m with toUpstream := [[0x7E#8]], lastOwn := false, replies := [mkReply 9 1 0x40 .ok .none] }).setAlert .railFault
      { send := true }, rfl, rfl, rfl, rfl, rfl, rfl, rfl, by decide, ?_⟩
  intro d hd
  cases d <;> simp [AlertCause.code] at hd

/-- A queue at 95 and at 96, one of 128 with an EVENT behind a RECORD, and one of 128 RECORDs. -/
theorem test_hyp_PostingFollowsQueueRules :
    let queue (l : List Report) : State := base.modMli fun m => { m with reports := l };
    let r : Report := ⟨true, 0, .linkState .upstream true⟩;
    let e : Report := ⟨false, 0, .linkState .upstream true⟩;
    (queue (List.replicate 95 r)).mli.reports.length < 96 ∧ 96 ≤ (queue (List.replicate 96 r)).mli.reports.length ∧
      (queue ([r] ++ e :: List.replicate 126 r)).mli.reports.length = 128 ∧ (∀ x ∈ [r], x.record = true) ∧
      e.record = false ∧ (queue (r :: List.replicate 127 r)).mli.reports.length = 128 ∧
      ∀ x ∈ (queue (r :: List.replicate 127 r)).mli.reports, x.record = true := by
  decide +kernel

theorem test_hyp_MillFrameRoundTrip : (⟨5, 9, 1, List.replicate 240 0⟩ : MillFrame).payload.length ≤ 240 := by decide +kernel

/-! Management -/

/-- A write that waits. -/
def e4 : DeferredWrite := ⟨9, 1, .articleNextEmpty, false, true⟩

theorem test_hyp_RequestsAreTurnedAway :
    base.accepts ∧ Instr.request (.restart 9 1) = some (9, 1, 0x4E) ∧
    (∃ s : State, s.mli.replies.length < 8 ∧ 4 ≤ s.placesHeld ∧ s.mli.deferred = [e4, e4, e4, e4]) ∧
    ∃ s : State, s.mli.replies.length < 8 ∧ s.placesHeld < 4 ∧ s.mli.restartArmed = true := by
  refine ⟨by unfold State.accepts; decide, rfl, ⟨base.modMli fun m => { m with deferred := [e4, e4, e4, e4] }, by decide⟩,
    ⟨base.modMli fun m => { m with restartArmed := true }, by decide⟩⟩

theorem test_hyp_AlertAckClearsCauses :
    base.accepts ∧ (∀ n ∈ [1, 11], 1 ≤ n ∧ n ≤ 11) ∧ (∃ n ∈ [1, 0], n = 0 ∨ 11 < n) ∧ ∃ n ∈ [12], n = 0 ∨ 11 < n := by
  dsimp only [State.accepts]
  decide

/-- A side with a channel that is BUSY and its unit's slot empty, and one that is IDLE and holds its queue. -/
theorem test_hyp_SideResetRestartsSide :
    (base.accepts ∧ base.quiet ∧ (base.railOf .a).installed ≠ 0 ∧ (base.railOf .b).installed = 0 ∧ sideOf 63 = .a ∧
      (base.railOf .a).installed ≤ 1024 ∧ 63 < Side.base .a + (base.railOf .a).installed) ∧
    ∀ st ∈ [ChannelState.busy, .idle],
      let s := polling .carriage (withChannel { state := st, job := some 63, hold := true } [9]);
      s.accepts ∧ s.quiet ∧ (s.zone 0).side = .a ∧ (s.channel 0).state = st ∧ (s.zone 0).address = some 2 ∧
        s.channelsAt 2 = [0] ∧ (s.unit 2).state ≠ .absent ∧ (s.unit 2).slot = none ∧ (s.unit 2).waiting = [] ∧
        ∀ c ∈ channelNumbers, (s.channel c).job = some 63 → sideOf 63 = .a := by
  dsimp only [State.accepts, State.quiet]
  decide +kernel

theorem test_hyp_RestartArmsAndRestarts :
    base.accepts ∧ base.mli.upstream.up = true ∧ base.mli.restartArmed = false ∧
      (base.modMli fun m => { m with restartArmed := true }).mli.restartArmed = true ∧
      (base.railOf .a).installed ≠ 0 ∧ (base.railOf .a).installed ≤ 1024 ∧ ¬ (base.railOf .b).installed ≠ 0 := by
  dsimp only [State.accepts]
  decide

theorem test_hyp_ReadsReturnTheirRecords :
    base.accepts ∧ base.names 0 63 ∧ 63 + 1 - 0 ≤ 64 ∧ ¬ base.names 0 64 ∧
      (let s := base.modRail .a fun r => { r with installed := 80 };
        s.names 0 64 ∧ 64 < 64 + 1 - 0) := by
  dsimp only [State.accepts, State.names]
  decide

/-- The least and the greatest of each range a clause takes, and operands that each first check refuses. -/
theorem test_hyp_WritesWaitForTheirClose :
    both.accepts ∧ (both.railOf .a).installed ≠ 0 ∧ (both.railOf .b).installed ≠ 0 ∧ both.mli.deferred = [] ∧
      both.thresholds.thrBreak < both.thresholds.thrRun ∧ both.thresholds.trimOff < both.thresholds.trimOn ∧
      ¬ both.thresholds.thrBreak < 64 ∧ ¬ (64 : Nat) ≤ 63 ∧ roleOfCode 1 = some .carriage ∧ rowOfCode 0 = some .railA ∧
      rowOfCode 5 = some .doffFault ∧
      ArticleFields.inRange ⟨412, 1000, 1000, 3850, 30000, 2400, 500, 300, 1000, 128⟩ = true ∧
      (doffIn .unconfigured both).dc.state = .unconfigured ∧ (doffIn .doffing both).dc.state = .doffing ∧
      (doffIn .build both).dc.state = .build ∧ alertOfCode 11 = some .queueRelief ∧ 64 % 16 = 0 ∧ 1024 % 16 = 0 ∧
      ¬ 65 % 16 = 0 ∧ 2032 + 15 ≤ 2047 ∧ 1952 + 95 = 2047 ∧ both.names 1024 1087 ∧ ¬ both.names 1024 1088 ∧
      overrideOfCode 0 = some .none := by
  dsimp only [State.accepts, State.names]
  decide +kernel

/-- The drive at bus address 7, OFFLINE. -/
def driveOff : State := idle.modSbm fun b => { b with units := b.units.set 6 { role := .drive, state := .offline } }

theorem test_hyp_WritesAreApplied :
    (let s := idle;
      s.accepts ∧ s.quiet ∧ (s.railOf .a).installed = 0 ∧ (s.railOf .b).installed = 0 ∧ s.mli.deferred = [] ∧
        s.thresholds.thrBreak < s.thresholds.thrRun ∧ s.thresholds.trimOff < s.thresholds.trimOn ∧
        roleOfCode 3 = some .drive ∧ (∀ b ∈ [1, 2, 3, 4, 5, 6, 7], (s.unit b).role ≠ .drive) ∧
        (s.unit 7).state = .absent ∧ s.sbm.pass = none ∧ s.channelsAt 7 = [] ∧ s.addressOf .drive = none ∧
        s.mli.reports.length < 96 ∧ s.reachesBeyond .a 64 = false ∧ s.reachesBeyond .a 1024 = false ∧
        s.dc.state = .unconfigured ∧ rowOfCode 7 = some .overrideRow ∧ alertOfCode 1 = some .railFault ∧
        (s.channel 3).inJob = false ∧ (s.creelSection 63).state = .supplied) ∧
    (driveOff.accepts ∧ driveOff.quiet ∧ (driveOff.unit 7).role = .drive ∧ (driveOff.unit 7).state = .offline ∧
      (∀ b ∈ [1, 2, 3, 4, 5, 6], (driveOff.unit b).role ≠ .drive) ∧ driveOff.sbm.pass = none ∧
      driveOff.channelsAt 7 = [] ∧ driveOff.mli.reports.length < 96) ∧
    (let s := { idle with pd := { idle.pd with zones := idle.pd.zones.set 0 ⟨true, some 2, .a, 0, 63⟩ } };
      s.accepts ∧ s.quiet ∧ (s.zone 0).enabled = true ∧ (s.zone 0).side = .a ∧ Side.base .a + 0 ≤ (s.zone 0).last) := by
  dsimp only [State.accepts, State.quiet]
  decide +kernel

/-- A write that waits for side A's close. -/
def waiting (w : TableWrite) (s : State := both) : State := s.modMli fun m => { m with deferred := [⟨9, 1, w, false, true⟩] }

/-- Each kind of write, as it passes its second check and as it fails it. -/
theorem test_hyp_WritesAreCheckedAndAppliedAtClose :
    (∀ w ∈ [TableWrite.thresholds {}, .units 7 .drive, .ceilingRow .railA true false 0, .articleActive art, .articleNext art,
        .articleNextEmpty, .alertEnable [(.railFault, true)], .spindleMap .a 0 false, .zone 0 ⟨false, some 2, .a, 0, 63⟩,
        .creelSection 63 ⟨false, .a, 0, 7, 2, 200, 20⟩, .mask 0 63 .forceDown, .spindleMap .b 64 true],
      let s := waiting w;
      (s.railOf .a).installed ≠ 0 ∧ (s.railOf .a).windowOpen = true ∧ s.dc.dofferReady = false ∧
        s.mli.replies.length + s.mli.deferred.length ≤ 8 ∧ s.sbm.pass = none ∧ s.dc.state = .unconfigured) ∧
    (∀ x ∈ [(TableWrite.units 7 .drive, ReplyCode.conflict), (.articleActive art, .protected_), (.spindleMap .a 0 true, .conflict),
        (.zone 0 ⟨true, some 3, .a, 0, 63⟩, .busy), (.zone 1 ⟨true, some 3, .a, 0, 64⟩, .range),
        (.zone 1 ⟨true, some 3, .a, 0, 63⟩, .conflict), (.creelSection 63 ⟨false, .a, 0, 7, 2, 200, 20⟩, .busy),
        (.creelSection 62 ⟨true, .a, 60, 67, 2, 200, 20⟩, .range),
        (.creelSection 62 ⟨true, .a, 7, 14, 2, 200, 20⟩, .conflict)],
      (waiting x.1 (driveAtDoff (doffIn .build (sectionIn .requested 0
        (withChannel { state := .busy, job := some 7 } []))))).secondCheck x.1 = some x.2) := by
  decide +kernel

/-! ### Worked examples and values of the spec -/

/-- The check value that 11.4 states for the characters 1 to 9 (R183). -/
theorem test_crc_of_123456789 :
    crc16 [0x31, 0x32, 0x33, 0x34, 0x35, 0x36, 0x37, 0x38, 0x39] = 0x29B1#16 := by decide +kernel

/-- The head reply block of R184: head 2, sweep 9, a count of 300 in field 0, check byte 38h. -/
theorem test_head_block_of_R184 :
    parseHeadBlock (2 :: 9 :: 0x01 :: 0x2C :: List.replicate 30 0 ++ [0x38#8]) =
      some ⟨2, 9, ⟨300, false⟩ :: List.replicate 15 ⟨0, false⟩⟩ := by decide +kernel

/-- The classification boundary of chapter 2: P 226, mpp_q 1,357, TPM 1,000 (R22). -/
theorem test_classification_boundary :
    let h : Thresholds := { mppQ := 1357 };
    [270, 269, 75, 74, 4095].map (countVerdict h 226 1000) = [.run, .slip, .slip, .below, .run] := by decide +kernel

/-- The example of R47 and the three closes of chapter 3: the length d and the carry. -/
theorem test_delivered_length_and_carry :
    let close (carry p : Nat) : Nat × Nat :=
      let s := (({ base with thresholds := { mppQ := 1357 } }).modLength .a fun x => { x with carry := carry, held := p });
      let x := (deliverLength .a s).1.lengthSide .a;
      (x.lastD, x.carry);
    [close 0 226, close 506 226, close 1012 227] = [(299, 506), (299, 1012), (301, 827)] := by decide +kernel

/-- Bobbin 13 of chapter 3's example runs out: 12 mm remain and 7 mm with remainder 2,950 are charged (R53, R54). -/
theorem test_roving_charge_at_the_end :
    let s := doffIn .build ((spin 13 .running).modLength .a fun x => { x with lastD := 299 });
    ((chargeRoving .a (s.setBobbin 13 ⟨.loaded, 12, 0, false⟩)).1.bobbin 13 = ⟨.loaded, 5, 2950, false⟩) ∧
      ((chargeRoving .a (s.setBobbin 13 ⟨.loaded, 7, 0, false⟩)).1.bobbin 13).state = .emptyEst := by decide +kernel

/-- R78: the queued spindle of a false piece counts until it is taken; a queued one without is not counted (R67). -/
theorem test_false_piece_counts_until_taken :
    let s := (withChannel { state := .idle } [63]).setSpindle 63 { state := .down, downSince := some 0, queued := true };
    (countDownLoad .a [63] [] s).pd.downLoad.a.count = 1 ∧ (countDownLoad .a [] [] s).pd.downLoad.a.count = 0 ∧
      (offerNow 0 (countDownLoad .a [63] [] s)).pd.downLoad.a.count = 0 := by
  decide +kernel

/-- R9: the CEILING_ROW report of a write applied at step 1 carries the index of the close. -/
theorem test_step_one_carries_the_index :
    nextHas (exec (.sweepClose .a) ((waiting (.ceilingRow .panelStop true false 0) base).setRow .panelStop
        { base.ceilingRow .panelStop with enable := false, cause := true, active := false }))
      (fun t => t.mli.reports.any fun r => r.body == .ceilingRow .panelStop true false 1) = true := by
  decide +kernel

/-- The cop classes of chapter 5's example: full from 28,476,563 mm, short below 15,000,000 mm (R100). -/
theorem test_cop_classes :
    [28476563, 28476562, 15000000, 14999999, 1000, 999].map (fun n => copClass 30000000 128 { copMm := n }) =
      [.full, .middle, .middle, .short, .short, .empty] := by decide

/-- The figures of chapter 8's example: efficiency 975, mass 87,126 g (R150, R151). -/
theorem test_shift_figures :
    ({ evaluable := 28601020, running := 27886015, massAcc := 8712654000000 } : ShiftRecord).efficiency = some 975 ∧
      ({ massAcc := 8712654000000 } : ShiftRecord).massG = 87126 := by decide +kernel

/-- A frame from station 9 to station 5 with an empty payload, byte by byte, is that frame (11.1). -/
theorem test_mill_frame_reads :
    parseMillFrame ([0x7E, 5, 9, 0x10, 0] ++ crcBytes [5, 9, 0x10, 0]) = some ⟨5, 9, 0x10, []⟩ ∧
      parseMillFrame [0x7E, 5, 9, 0x10, 0, 0, 0] = none := by decide +kernel

/-- A carriage's DONE(0, ABORTED) and a POSITION(521, UP) as 11.3 and 11.5 spell them. -/
theorem test_unit_messages_read :
    parseUnitMsg 0x42 [0, 4] = some (.done false .aborted) ∧ parseUnitMsg 0x43 [0x02, 0x09, 0] = some (.position 521 .up)
      ∧ parseUnitMsg 0x4A [0x07, 0xFF] = some (.changerFailed 2047) := by decide +kernel

/-- A write of sweep_ms takes the nearest multiple of 250, the greater of two as near (R2). -/
theorem test_sweep_ms_is_rounded : [1124, 1125, 100, 9000].map clampSweepMs = [1000, 1250, 500, 4000] := by decide +kernel

/-- Requests by their payloads (11.5). -/
theorem test_requests_read :
    parseRequest 0x44 [0x02, 0x62, 0x02, 0x62, 1] = .spindleMask 610 610 1 ∧ parseRequest 0x49 [1] = .releaseDoff ∧
      parseRequest 0x43 [1, 0, 0, 0] = .presetBuild 16777216 ∧ parseRequest 0x7F [] = .unknown 0x7F := by decide +kernel

/-! ### One step each -/

theorem test_powerOn_samples_straps :
    nextHas (exec (.powerOn 0x3F) base) (fun t => t.mli.station == 0x3F && (t.railOf .a).installed == 0) = true := by
  decide +kernel

theorem test_encoderPulse_wraps :
    nextHas (exec .encoderPulse { base with lu := { base.lu with pulses := 0xFFFFFFFF#32 } }) (fun t => t.lu.pulses == 0) =
      true := by decide +kernel

theorem test_sweepStart_wraps_number :
    nextHas (exec (.sweepStart .a) (base.modRail .a fun r => { r with sweepNumber := 15, windowOpen := false }))
      (fun t => (t.railOf .a).sweepNumber == 0 && (t.railOf .a).windowTimer == some 900) = true := by decide +kernel

/-- An expiry that a side reset has overtaken starts no sweep (R18). -/
theorem test_sweepStart_overtaken :
    nextHas (exec (.sweepStart .a) base) (fun t => t.rail.a == base.rail.a) = true := by decide +kernel

/-- PANEL_STOP high for 50 ms: its row is the next event of the time base (R144). -/
theorem test_five_samples_bring_panel_row :
    let s := base.modDcu fun d => { d with inputs := { d.inputs with panelStop := ⟨true, 4⟩ } };
    nextHas (step s) (fun t => t.due.contains (.panelStop true)) = true := by decide +kernel

/-- A CANCEL does not take the place of another channel's message (R80). -/
theorem test_cancel_waits_behind_other_channel :
    let u : BusUnit := { state := .online, slot := some (.job 1 9 true) };
    (u.placeCancel 0 7 false).slot = some (.job 1 9 true) ∧ (u.placeCancel 1 9 true).slot = some (.cancel 1 true) := by
  decide

/-- The fourth errored sweep of a head takes it to LOST (R10). -/
theorem test_headLost_takes_head :
    nextHas (exec (.headLost .a 3) (base.modRail .a fun r => { r with heads := r.heads.set 3 ⟨.errored, 3, 0⟩ }))
      (fun t => ((t.railOf .a).heads.getD 3 {}).state == .lost) = true := by decide +kernel

/-- An ACCEPT with the other seq is REFUSED and takes nothing (R76). -/
theorem test_accept_of_other_seq_is_refused :
    nextHas (exec (.accept 2 false false)
        (polling .carriage (withChannel { state := .offered, job := some 7, seq := true, offerPolls := some 0 } [])))
      (fun t => (t.unit 2).answer == some .refused && (t.channel 0).state == .offered) = true := by decide +kernel

/-- Event 2 of chapter 5's timeline: READY in NEAR_FULL. -/
theorem test_ready_in_near_full :
    nextHas (exec (.ready 2 false) (polling .doffer (doffIn .nearFull)))
      (fun t => t.dc.dofferReady && t.dc.state == .nearFull) = true := by decide +kernel

/-- Event 3 of chapter 5's timeline: FULL with 90 s and 30 s. -/
theorem test_doffNow_takes_full :
    nextHas (exec (.doffNow 9 1) (doffIn .nearFull))
      (fun t => t.dc.state == .full && t.dc.stopTimer == some 90000 && t.dc.clearTimer == some 30000) = true := by
  decide +kernel

/-- A poll that is missed the third time takes the unit OFFLINE (R163). -/
theorem test_third_missed_poll :
    nextHas (exec .missedAnswer ((polling .doffer base).modUnit 2 fun u => { u with missedPolls := 2 }))
      (fun t => (t.unit 2).state == .offline) = true := by decide +kernel

/-- SHIFT_CLOSE while one is pending is BUSY (R154). -/
theorem test_shiftClose_busy :
    nextHas (exec (.shiftClose 9 1) (base.modShift .a fun x => { x with pending := true }))
      (fun t => t.mli.replies.map (·.code) == [.busy]) = true := by decide +kernel

/-- A range across the two sides is RANGE (R38). -/
theorem test_spindleMask_across_sides :
    nextHas (exec (.spindleMask 9 1 1023 1024 1) { base with rail := ⟨{ railIn .sync with installed := 1024 }, railIn .sync⟩ })
      (fun t => t.mli.replies.map (·.code) == [.range]) = true := by decide +kernel

/-- HALT overrides STOP: the ceiling is the lowest of the active rows (R134). -/
theorem test_ceiling_is_the_lowest :
    nextHas (exec (.ceilingOverride 9 1 (some 0))
        ((base.setRow .overrideRow { mode := none }).setRow .panelStop { cause := true, active := true, mode := some .stop }))
      (fun t => t.dcu.ceiling == .halt && !t.dcu.lines.runPermit) = true := by decide +kernel

/-- An exchange request of a section goes to the transport station (R120). -/
theorem test_backoff_sends_request :
    nextHas (exec (.backoffTimerExpiry 63) ((sectionIn .low 9).modCreel fun c => { c with queue := [⟨63, false, 1⟩] }))
      (fun t => (t.creelSection 63).state == .requested && t.mli.transport.map (·.dest) == [9]) = true := by decide +kernel

/-- A table row without bits spells no command (the table gives no row any). -/
theorem test_no_word_spells_a_command : decodeTableWord 8 0x41 = none ∧ (base.withFetchWord 8 0x41).pending = [] := by
  decide +kernel

/-- 11.1 and 11.5: an ALERT goes to station 0 as type 04h; an absent detail is the presence byte 0 alone. -/
theorem test_alert_frame :
    alertFrame 12 .carriageOffline 3 (some 2) = ⟨0x00, 0x0C, 0x04, [0x05, 0x03, 0x01, 0x02]⟩ ∧
    (alertFrame 12 .queueRelief 1 none).payload = [0x0B, 0x01, 0x00] := by decide +kernel

end Sys2Proof.Tests
end

section
/-! PROOFS. The verdict of a traveller count (R22): which of the two cross-multiplied tests decides it, and the bound under
which the product of the tests stays. -/

namespace Sys2Proof.Machine

section verdict
variable {h : Thresholds} {p tpm c : Nat}

theorem countVerdict_of_running (run : c = 4095 ∨ p * h.mppQ * tpm * h.thrRun ≤ c * 262144000) :
    countVerdict h p tpm c = .run := by
  unfold countVerdict
  split
  · rfl
  · next hc => rw [if_pos (run.resolve_left hc)]

theorem countVerdict_of_not_running
    (run : ¬ (c = 4095 ∨ p * h.mppQ * tpm * h.thrRun ≤ c * 262144000)) :
    countVerdict h p tpm c = if c * 262144000 < p * h.mppQ * tpm * h.thrBreak then .below else .slip := by
  obtain ⟨hc, hrun⟩ := not_or.mp run
  rw [countVerdict, if_neg hc, if_neg hrun]

theorem countVerdict_eq_run :
    countVerdict h p tpm c = .run ↔ c = 4095 ∨ p * h.mppQ * tpm * h.thrRun ≤ c * 262144000 := by
  refine ⟨fun e => ?_, countVerdict_of_running⟩
  by_contra run
  rw [countVerdict_of_not_running run] at e
  split at e <;> cases e

theorem countVerdict_eq_below :
    countVerdict h p tpm c = .below ↔ ¬ (c = 4095 ∨ p * h.mppQ * tpm * h.thrRun ≤ c * 262144000) ∧
      c * 262144000 < p * h.mppQ * tpm * h.thrBreak := by
  by_cases run : c = 4095 ∨ p * h.mppQ * tpm * h.thrRun ≤ c * 262144000
  · simp [countVerdict_of_running run, run]
  · simp [countVerdict_of_not_running run, run]

theorem countVerdict_eq_slip :
    countVerdict h p tpm c = .slip ↔ ¬ (c = 4095 ∨ p * h.mppQ * tpm * h.thrRun ≤ c * 262144000) ∧
      ¬ c * 262144000 < p * h.mppQ * tpm * h.thrBreak := by
  by_cases run : c = 4095 ∨ p * h.mppQ * tpm * h.thrRun ≤ c * 262144000
  · simp [countVerdict_of_running run, run]
  · simp [countVerdict_of_not_running run, run]

/-- With thr_break under thr_run a count cannot pass the running test and the below test both. -/
theorem not_runs_and_below (thr : h.thrBreak < h.thrRun) :
    ¬ (p * h.mppQ * tpm * h.thrRun ≤ c * 262144000 ∧ c * 262144000 < p * h.mppQ * tpm * h.thrBreak) := by
  rintro ⟨runs, below⟩
  have mono : p * h.mppQ * tpm * h.thrBreak ≤ p * h.mppQ * tpm * h.thrRun := Nat.mul_le_mul_left _ thr.le
  omega

/-- R22: over the ranges of its factors the product fits 64 bits. -/
theorem verdictProduct_lt (hp : p ≤ 65535) (hm : h.mppQ ≤ 65535) (ht : tpm ≤ 4000) (hr : h.thrRun ≤ 255) :
    p * h.mppQ * tpm * h.thrRun < 2 ^ 64 :=
  calc p * h.mppQ * tpm * h.thrRun
      ≤ 65535 * 65535 * 4000 * 255 := by gcongr
    _ < 2 ^ 64 := by norm_num

end verdict

/-- Settles O16: one equivalence per verdict, the tests taken in their order, and the two facts about the tests. -/
theorem verdictByCrossMultiplication : Obligations.VerdictByCrossMultiplication := by
  intro h p tpm c
  refine ⟨countVerdict_eq_run, ?_, ?_, ?_, not_runs_and_below, verdictProduct_lt⟩
  · rw [countVerdict_eq_below, not_or, and_assoc]
  · rw [countVerdict_eq_slip, not_or, and_assoc]
  · intro thr below
    have test := (countVerdict_eq_below.mp below).2
    simp [thr] at test

end Sys2Proof.Machine
end

section
/-! PROOFS. What a frame leaves of the records read from a state, and the facts on which the end of an event turns: who may
offer (R70) and what the Doff Controller is told (R83, R138). -/

namespace Sys2Proof.Machine

/-! ### Records outside a frame -/

section frame
variable {ps : List Part} {s t : State} (h : s.changesOnly ps t)
include h

theorem State.changesOnly.spindle_eq (hp : .spindles ∉ ps) (p : Nat) : t.spindle p = s.spindle p := by
  have e : t.spindles = s.spindles := h .spindles hp
  rw [State.spindle, State.spindle, e]

theorem State.changesOnly.zone_eq (hp : .zones ∉ ps) (c : Nat) : t.zone c = s.zone c := by
  have e : t.pd.zones = s.pd.zones := h .zones hp
  rw [State.zone, State.zone, e]

theorem State.changesOnly.channel_eq (hp : .channels ∉ ps) (c : Nat) : t.channel c = s.channel c := by
  have e : t.pd.channels = s.pd.channels := (h .channels hp).1
  rw [State.channel, State.channel, e]

theorem State.changesOnly.breakQueue_eq (hp : .queues ∉ ps) (c : Nat) : t.breakQueue c = s.breakQueue c := by
  have e : t.pd.queues = s.pd.queues := h .queues hp
  rw [State.breakQueue, State.breakQueue, e]

theorem State.changesOnly.unit_eq (hp : .units ∉ ps) (a : Nat) : t.unit a = s.unit a := by
  have e : t.sbm.units = s.sbm.units := h .units hp
  rw [State.unit, State.unit, e]

end frame

/-! ### A placed message leaves the unit's role and state -/

@[simp] theorem BusUnit.fill_role (u : BusUnit) : u.fill.role = u.role := by unfold BusUnit.fill; split <;> rfl
@[simp] theorem BusUnit.fill_state (u : BusUnit) : u.fill.state = u.state := by unfold BusUnit.fill; split <;> rfl

@[simp] theorem BusUnit.place_role (m : BusMsg) (u : BusUnit) : (u.place m).role = u.role := by
  unfold BusUnit.place; split <;> simp
@[simp] theorem BusUnit.place_state (m : BusMsg) (u : BusUnit) : (u.place m).state = u.state := by
  unfold BusUnit.place; split <;> simp

@[simp] theorem BusUnit.placeCancel_role (c job : Nat) (seq : Bool) (u : BusUnit) :
    (u.placeCancel c job seq).role = u.role := by
  unfold BusUnit.placeCancel; split_ifs <;> simp
@[simp] theorem BusUnit.placeCancel_state (c job : Nat) (seq : Bool) (u : BusUnit) :
    (u.placeCancel c job seq).state = u.state := by
  unfold BusUnit.placeCancel; split_ifs <;> simp

theorem placeCancel_unit (c job : Nat) (seq : Bool) (s : State) (a : Nat) :
    ((placeCancel c job seq s).unit a).role = (s.unit a).role ∧
      ((placeCancel c job seq s).unit a).state = (s.unit a).state := by
  unfold placeCancel
  split
  · rw [State.unit_modUnit]
    split
    · next e => simp [e.1]
    · exact ⟨rfl, rfl⟩
  · exact ⟨rfl, rfl⟩

/-! ### What keeps the end of an event quiet -/

theorem State.roleOnline_of_units {s t : State}
    (h : ∀ a, (t.unit a).role = (s.unit a).role ∧ (t.unit a).state = (s.unit a).state) (r : Role) :
    t.roleOnline r = s.roleOnline r := by
  have e : t.addressOf r = s.addressOf r := by simp only [State.addressOf, (h _).1]
  unfold State.roleOnline
  rw [e]
  split
  · rw [(h _).2]
  · rfl

/-- From `s` to `t` no channel comes nearer to an offer and none leaves its job, and neither the doff state nor the drive's
fact changes. -/
structure State.Steady (s t : State) : Prop where
  zones : ∀ c, t.zone c = s.zone c
  queues : ∀ c, t.breakQueue c ⊆ s.breakQueue c
  channels : ∀ c, t.channel c = s.channel c ∨ ((s.channel c).inJob = true ∧ (t.channel c).inJob = true)
  doff : t.dc = s.dc
  actual : t.dcu.lastActual = s.dcu.lastActual
  units : ∀ a, (t.unit a).role = (s.unit a).role ∧ (t.unit a).state = (s.unit a).state

theorem State.Steady.trans {s t u : State} (h : s.Steady t) (k : t.Steady u) : s.Steady u where
  zones c := (k.zones c).trans (h.zones c)
  queues c := List.Subset.trans (k.queues c) (h.queues c)
  channels c := by
    rcases k.channels c with e | ⟨kt, ku⟩
    · rw [e]; exact h.channels c
    · rcases h.channels c with e | ⟨hs, _⟩
      · exact .inr ⟨e ▸ kt, ku⟩
      · exact .inr ⟨hs, ku⟩
  doff := k.doff.trans h.doff
  actual := k.actual.trans h.actual
  units a := ⟨(k.units a).1.trans (h.units a).1, (k.units a).2.trans (h.units a).2⟩

/-- A frame without the pieces that `quiet` reads keeps steady. -/
theorem State.changesOnly.steady {ps : List Part} {s t : State} (h : s.changesOnly ps t)
    (hp : ∀ x ∈ ps, x ∉ [Part.zones, .queues, .channels, .doff, .drive, .units]) : s.Steady t where
  zones := h.zone_eq fun k => hp _ k (by simp)
  queues c := by rw [h.breakQueue_eq (fun k => hp _ k (by simp))]; exact fun _ => id
  channels c := .inl (h.channel_eq (fun k => hp _ k (by simp)) c)
  doff := h .doff fun k => hp _ k (by simp)
  actual := (h .drive fun k => hp _ k (by simp)).1
  units a := by rw [h.unit_eq (fun k => hp _ k (by simp))]; exact ⟨rfl, rfl⟩

theorem Channel.state_ne_idle_of_inJob {x : Channel} (h : x.inJob = true) : x.state ≠ .idle := by
  intro e; simp [Channel.inJob, e] at h

section steady
variable {s t : State} (h : s.Steady t)
include h

theorem State.Steady.mayNotOffer {c : Nat} (m : s.mayOffer c = false) : t.mayOffer c = false := by
  rcases h.channels c with e | ⟨_, job⟩
  · simp only [State.mayOffer, e, h.zones c] at m ⊢
    have empty : (s.breakQueue c).isEmpty = true → (t.breakQueue c).isEmpty = true := by
      simp only [List.isEmpty_iff]
      exact fun k => List.subset_nil.mp (k ▸ h.queues c)
    grind
  · simp [State.mayOffer, Channel.state_ne_idle_of_inJob job]

theorem State.Steady.carriagesClearFact : t.carriagesClearFact = s.carriagesClearFact := by
  have e (c : Nat) : (t.channel c).inJob = (s.channel c).inJob := by
    rcases h.channels c with e | ⟨hs, ht⟩
    · rw [e]
    · rw [hs, ht]
  simp only [State.carriagesClearFact, e]

theorem State.Steady.driveAtDoffFact : t.driveAtDoffFact = s.driveAtDoffFact := by
  unfold State.driveAtDoffFact
  rw [State.roleOnline_of_units h.units, h.actual]

theorem State.Steady.quiet (q : s.quiet) : t.quiet := by
  obtain ⟨offers, drive, clear⟩ := q
  exact ⟨fun c hc => h.mayNotOffer (offers c hc), by rw [h.doff, h.driveAtDoffFact, drive],
    by rw [h.doff, h.carriagesClearFact, clear]⟩

end steady

end Sys2Proof.Machine
end

section
/-! PROOFS. A spindle that has left DOWN, RED or PIECING (R39, R81): what the notice of it does to the break queues, the
channels and the count. -/

namespace Sys2Proof.Machine

/-! ### Leaving a queue -/

theorem dequeue_breakQueue (p c : Nat) (s : State) :
    (dequeue p s).breakQueue c = (s.breakQueue c).filter (· != p) := by
  have tables : (dequeue p s).pd.queues = tmap (fun _ q => q.filter (· != p)) s.pd.queues := by
    unfold dequeue; dsimp only; split <;> rfl
  rw [State.breakQueue, State.breakQueue, tables]
  by_cases hc : c < 4
  · exact tget_tmap [] [] _ _ hc
  · rw [tget_of_le _ _ (by omega), tget_of_le _ _ (by omega), List.filter_nil]

/-- A spindle with queued no leaves its queue with its record as it is. -/
theorem dequeue_changes_of_unqueued {p : Nat} {s : State} (h : (s.spindle p).queued = false) :
    s.changesOnly [.queues] (dequeue p s) := by
  unfold dequeue
  dsimp only
  rw [if_neg]
  · exact State.withPd_changes _ _ (by simp) (by simp) (by simp) (by simp)
  · exact Bool.not_eq_true _ ▸ h

/-! ### The cancelled job -/

/-- The record is of a spindle that neither a queue nor a job can claim again. -/
structure Spindle.Left (r : Spindle) : Prop where
  notDown : r.state ≠ .down
  notPiecing : r.state ≠ .piecing
  unqueued : r.queued = false

theorem jobWithdrawn_of_left {p : Nat} {s : State} (h : (s.spindle p).Left) : jobWithdrawn p s = s := by
  simp [jobWithdrawn, h.notPiecing]

theorem requeue_of_left {p : Nat} {s : State} (h : (s.spindle p).Left) : requeue p s = s := by
  simp [requeue, h.notDown]

/-- The channel of a job that is cancelled (R79, R80). -/
def Channel.cancelled (cause : CancelCause) (x : Channel) : Channel :=
  { x.clearJob .cancelling with seq := !x.seq, cancelCause := some cause, cancelTimer := some 10000 }

/-- The channel has the spindle as its job (R70, R73). -/
def Channel.holdsJob (p : Nat) (x : Channel) : Prop := (x.state = .offered ∨ x.state = .busy) ∧ x.job = some p

theorem Channel.holdsJob.inJob {p : Nat} {x : Channel} (h : x.holdsJob p) : x.inJob = true := by
  rcases h.1 with e | e <;> simp [Channel.inJob, e]

theorem Channel.cancelled_inJob (cause : CancelCause) (x : Channel) : (x.cancelled cause).inJob = true := rfl

/-- The cancellation of a spindle's job that the spindle has left already: a CANCEL, the channel in CANCELLING, and the
report. -/
theorem cancelJob_of_left {c p : Nat} {s : State} (job : (s.channel c).holdsJob p) (left : (s.spindle p).Left) :
    ((placeCancel c p (s.channel c).seq s).setChannel c ((s.channel c).cancelled .cancelled)).changesOnly
      [.alerts, .reports] (cancelJob c .cancelled s) := by
  obtain ⟨state, number⟩ := job
  have placed : s.changesOnly [.channels, .units]
      ((placeCancel c p (s.channel c).seq s).setChannel c ((s.channel c).cancelled .cancelled)) :=
    .via (.mono (placeCancel_changes s _ _ _) (by simp)) (State.setChannel_changes _ _ _) (by simp)
  have left2 := placed.spindle_eq (by simp) p ▸ left
  have guard : ((s.channel c).state == .offered || (s.channel c).state == .busy) = true := by simpa using state
  unfold cancelJob
  simp only [guard, number, if_true, Option.getD_some, endCancelled, reduceCtorEq, if_false]
  change State.changesOnly _ _ (postEvent _ (requeue p (jobWithdrawn p
    ((placeCancel c p (s.channel c).seq s).setChannel c ((s.channel c).cancelled .cancelled)))))
  rw [jobWithdrawn_of_left left2, requeue_of_left left2]
  exact postEvent_changes _ _

theorem State.channelOfJob_spec {s : State} {p c : Nat} (h : s.channelOfJob p = some c) :
    c ∈ channelNumbers ∧ (s.channel c).holdsJob p := by
  refine ⟨List.mem_of_find?_eq_some h, ?_⟩
  simpa [Channel.holdsJob] using List.find?_some h

theorem State.channelOfJob_of_holdsJob {s : State} {p c : Nat} (hc : c ∈ channelNumbers)
    (job : (s.channel c).holdsJob p) (once : ∀ d ∈ channelNumbers, (s.channel d).job = some p → d = c) :
    s.channelOfJob p = some c := by
  cases e : s.channelOfJob p with
  | some d =>
    obtain ⟨hd, job'⟩ := State.channelOfJob_spec e
    rw [once d hd job'.2]
  | none =>
    have missed := List.find?_eq_none.mp e c hc
    simp [job.1, job.2] at missed

theorem lt_four_of_mem_channelNumbers {c : Nat} (h : c ∈ channelNumbers) : c < 4 := by
  simp only [channelNumbers, List.mem_cons, List.not_mem_nil, or_false] at h
  omega

/-! ### The notice of a spindle that has left -/

section tellLeft
variable {p : Nat} {s : State} (left : (s.spindle p).Left)
include left

/-- The state in which the notice comes to the job: out of the queues and of the count. -/
theorem uncount_dequeue_changes :
    s.changesOnly [.alerts, .downLoad, .queues, .reports, .rows] (uncount p (dequeue p s)) :=
  .via (.mono (dequeue_changes_of_unqueued left.unqueued) (by simp)) (uncount_changes _ _) (by simp)

/-- The notice cancels the spindle's job, where a channel has it, and does nothing else after leaving queue and count. -/
theorem tellLeft_cases :
    (s.channelOfJob p = none ∧ tellLeft p s = uncount p (dequeue p s)) ∨
      ∃ c, s.channelOfJob p = some c ∧ c < 4 ∧ (s.channel c).holdsJob p ∧
        ((placeCancel c p (s.channel c).seq (uncount p (dequeue p s))).setChannel c
          ((s.channel c).cancelled .cancelled)).changesOnly [.alerts, .reports] (tellLeft p s) := by
  have out := uncount_dequeue_changes left
  have channels := out.channel_eq (by simp)
  have find : (uncount p (dequeue p s)).channelOfJob p = s.channelOfJob p := by
    simp only [State.channelOfJob, channels]
  cases e : s.channelOfJob p with
  | none => exact .inl ⟨rfl, by simp only [tellLeft, find, e]⟩
  | some c =>
    obtain ⟨hc, job⟩ := State.channelOfJob_spec e
    refine .inr ⟨c, rfl, lt_four_of_mem_channelNumbers hc, job, ?_⟩
    simp only [tellLeft, find, e]
    rw [← channels c]
    exact cancelJob_of_left (by rwa [channels c]) (by rwa [out.spindle_eq (by simp)])

theorem tellLeft_changes_of_left :
    s.changesOnly [.alerts, .channels, .downLoad, .queues, .reports, .rows, .units] (tellLeft p s) := by
  have out := (uncount_dequeue_changes left).mono
    (qs := [.alerts, .channels, .downLoad, .queues, .reports, .rows, .units]) (by simp)
  rcases tellLeft_cases left with ⟨_, e⟩ | ⟨c, _, _, _, cancel⟩
  · rwa [e]
  · refine .via (.via (.via out (placeCancel_changes _ _ _ _) ?_) (State.setChannel_changes _ _ _) ?_) cancel ?_ <;> simp

theorem tellLeft_breakQueue (d : Nat) : (tellLeft p s).breakQueue d = (s.breakQueue d).filter (· != p) := by
  rw [← dequeue_breakQueue]
  have counted := (uncount_changes (dequeue p s) p).breakQueue_eq (by simp) d
  rcases tellLeft_cases left with ⟨_, e⟩ | ⟨c, _, _, _, cancel⟩
  · rw [e, counted]
  · rw [cancel.breakQueue_eq (by simp), (State.setChannel_changes _ _ _).breakQueue_eq (by simp),
      (placeCancel_changes _ _ _ _).breakQueue_eq (by simp), counted]

theorem tellLeft_channel (d : Nat) : (tellLeft p s).channel d =
    if s.channelOfJob p = some d then (s.channel d).cancelled .cancelled else s.channel d := by
  have out := (uncount_dequeue_changes left).channel_eq (by simp)
  rcases tellLeft_cases left with ⟨job, e⟩ | ⟨c, job, hc, _, cancel⟩
  · simp [e, job, out]
  · rw [cancel.channel_eq (by simp), State.channel_setChannel, job,
      (placeCancel_changes _ _ _ _).channel_eq (by simp), out]
    by_cases h : c = d
    · subst h; simp [hc]
    · simp [h]

theorem tellLeft_steady : s.Steady (tellLeft p s) where
  zones := (tellLeft_changes_of_left left).zone_eq (by simp)
  queues d := by rw [tellLeft_breakQueue left]; exact List.filter_subset_self _
  channels d := by
    rw [tellLeft_channel left]
    split
    · next job => exact .inr ⟨(State.channelOfJob_spec job).2.inJob, Channel.cancelled_inJob _ _⟩
    · exact .inl rfl
  doff := tellLeft_changes_of_left left .doff (by simp)
  actual := (tellLeft_changes_of_left left .drive (by simp)).1
  units a := by
    have out := (uncount_dequeue_changes left).unit_eq (by simp) a
    rcases tellLeft_cases left with ⟨_, e⟩ | ⟨c, _, _, _, cancel⟩
    · rw [e, out]; exact ⟨rfl, rfl⟩
    · rw [cancel.unit_eq (by simp), (State.setChannel_changes _ _ _).unit_eq (by simp), ← out]
      exact placeCancel_unit _ _ _ _ _

end tellLeft

end Sys2Proof.Machine
end

section
/-! PROOFS. SPINDLE_MASK, SPINDLE_UNMASK and CLEAR_RED (R38 to R41): the range they name, what each does to one spindle, a
run over the range, and the answer. -/

namespace Sys2Proof.Machine

/-! ### The range (R38) -/

theorem State.rangeSide_isSome_iff (s : State) (f l : Nat) : (s.rangeSide f l).isSome = true ↔ s.names f l := by
  have last_installed : s.installed l = true ↔ l < 2048 ∧ l < (sideOf l).base + (s.railOf (sideOf l)).installed := by
    simp [State.installed]
  have first_installed (le : f ≤ l) (side : sideOf f = sideOf l) (h : s.installed l = true) : s.installed f = true := by
    obtain ⟨hl, hi⟩ := last_installed.mp h
    simp [State.installed, side]
    omega
  unfold State.rangeSide State.names
  rw [Option.isSome_ite]
  constructor
  · rintro ⟨le, top, side, _, last⟩
    exact ⟨le, top, side, (last_installed.mp last).2⟩
  · rintro ⟨le, top, side, last⟩
    have h := last_installed.mpr ⟨top, last⟩
    exact ⟨le, top, side, first_installed le side h, h⟩

@[simp] theorem mem_positionRange {f l p : Nat} : p ∈ positionRange f l ↔ f ≤ p ∧ p ≤ l := by
  simp only [positionRange, List.mem_map, List.mem_range]
  constructor
  · rintro ⟨i, hi, rfl⟩; omega
  · rintro ⟨hf, hl⟩; exact ⟨p - f, by omega, by omega⟩

theorem nodup_positionRange (f l : Nat) : (positionRange f l).Nodup :=
  List.nodup_range.map fun _ _ => Nat.add_left_cancel

/-! ### A run of operations over positions -/

/-- Operations that each write their own spindle by `g`, run over positions without repetition. -/
theorem spindle_foldl {g : Spindle → Spindle} {op : State → Nat → State}
    (own : ∀ x p q, (op x p).spindle q = if p = q ∧ q < 2048 then g (x.spindle p) else x.spindle q)
    {ps : List Nat} (nodup : ps.Nodup) (s : State) (q : Nat) :
    (ps.foldl op s).spindle q = if q ∈ ps ∧ q < 2048 then g (s.spindle q) else s.spindle q := by
  induction ps generalizing s with
  | nil => simp
  | cons p ps ih =>
    obtain ⟨fresh, nodup⟩ := List.nodup_cons.mp nodup
    rw [List.foldl_cons, ih nodup, own]
    by_cases h : p = q
    · subst h; simp [fresh]
    · simp [h, Ne.symm h]

/-- What `P` of a position's turn makes `Q`, and every other turn keeps, holds after a run over that position. -/
theorem foldl_at_turn {op : State → Nat → State} {P Q : State → Prop} {p : Nat}
    (before : ∀ x q, q ≠ p → P x → P (op x q)) (turn : ∀ x, P x → Q (op x p)) (after : ∀ x q, Q x → Q (op x q))
    {ps : List Nat} (hp : p ∈ ps) {s : State} (hs : P s) : Q (ps.foldl op s) := by
  have kept (qs : List Nat) (x : State) (hx : Q x) : Q (qs.foldl op x) := by
    induction qs generalizing x with
    | nil => exact hx
    | cons q qs ih => exact ih _ (after x q hx)
  induction ps generalizing s with
  | nil => cases hp
  | cons q ps ih =>
    by_cases h : q = p
    · subst h; exact kept ps _ (turn s hs)
    · exact ih ((List.mem_cons.mp hp).resolve_left (Ne.symm h)) (before s q h hs)

/-! ### The records (R39 to R41) -/

theorem Spindle.maskAs_eq (k : MaskKind) (r : Spindle) : r.maskAs k =
    { r with state := .masked, mask := k, belowRun := 0, aboveRun := 0, attempts := 0, provisionalMm := 0,
             downSince := none, observedRun := none, verifyCount := none, queued := false } := rfl

theorem Spindle.maskAs_left (k : MaskKind) (r : Spindle) : (r.maskAs k).Left :=
  ⟨SpindleState.noConfusion, SpindleState.noConfusion, rfl⟩

theorem Spindle.unmask_of_masked {r : Spindle} (h : r.state = .masked) (paused : Bool) : r.unmask paused =
    { r with state := if paused then .doffPause else .unknown, mask := .none, belowRun := 0, aboveRun := 0,
             downSince := none, observedRun := none, verifyCount := none, afterDoff := false } := by
  cases paused <;> simp [Spindle.unmask, Spindle.enter, SpindleState.carriesDown, h]

theorem Spindle.clearRed_of_red {r : Spindle} (h : r.state = .red) : r.clearRed =
    { r with state := .down, belowRun := 0, aboveRun := 0, attempts := 0, observedRun := none, verifyCount := none } := by
  simp [Spindle.clearRed, Spindle.enter, SpindleState.carriesDown, h]

/-! ### The mask of one spindle (R39) -/

/-- What SPINDLE_MASK makes of a record: a masked spindle takes the new kind. -/
def Spindle.masked (k : MaskKind) (r : Spindle) : Spindle :=
  if r.state = .masked then { r with mask := k } else r.maskAs k

theorem State.setSpindle_left {s : State} {p : Nat} {r : Spindle} (h : r.Left) : ((s.setSpindle p r).spindle p).Left := by
  rw [State.spindle_setSpindle]
  split
  · exact h
  · next hp =>
    rw [State.spindle, tget_of_le _ _ (by simpa using hp)]
    exact ⟨SpindleState.noConfusion, SpindleState.noConfusion, rfl⟩

/-- The mask writes the record, and then at most gives the notice that the spindle has left DOWN, RED or PIECING, or takes
it out of the creel changer's waiting list. -/
theorem maskSpindle_cases (k : MaskKind) (p : Nat) (s : State) :
    let written := s.setSpindle p ((s.spindle p).masked k)
    (((s.spindle p).state = .down ∨ (s.spindle p).state = .red ∨ (s.spindle p).state = .piecing) ∧
        (written.spindle p).Left ∧ maskSpindle k p s = tellLeft p written) ∨
      (((s.spindle p).state ≠ .down ∧ (s.spindle p).state ≠ .piecing) ∧
        written.changesOnly [.creel] (maskSpindle k p s)) := by
  cases e : (s.spindle p).state
  case masked => right; simpa [maskSpindle, Spindle.masked, e] using State.changesOnly.refl _ _
  case rovingOut => right; simpa [maskSpindle, Spindle.masked, e] using dropWaiting_changes _ _
  case down | red | piecing =>
    left
    simpa [maskSpindle, Spindle.masked, e] using State.setSpindle_left (Spindle.maskAs_left k _)
  all_goals right; simpa [maskSpindle, Spindle.masked, e] using State.changesOnly.refl _ _

section maskSpindle
variable (k : MaskKind) (p : Nat) (s : State)

theorem maskSpindle_spindle (q : Nat) : (maskSpindle k p s).spindle q =
    if p = q ∧ q < 2048 then (s.spindle p).masked k else s.spindle q := by
  rw [← State.spindle_setSpindle]
  rcases maskSpindle_cases k p s with ⟨_, left, e⟩ | ⟨_, creel⟩
  · rw [e, (tellLeft_changes_of_left left).spindle_eq (by simp)]
  · exact creel.spindle_eq (by simp) q

theorem maskSpindle_steady : s.Steady (maskSpindle k p s) := by
  have write := (s.setSpindle_changes p ((s.spindle p).masked k)).steady (by simp)
  rcases maskSpindle_cases k p s with ⟨_, left, e⟩ | ⟨_, creel⟩
  · rw [e]; exact write.trans (tellLeft_steady left)
  · exact write.trans (creel.steady (by simp))

variable {p s}

theorem not_mem_breakQueue_maskSpindle (down : (s.spindle p).state = .down) (c : Nat) :
    p ∉ (maskSpindle k p s).breakQueue c := by
  rcases maskSpindle_cases k p s with ⟨_, left, e⟩ | ⟨stays, _⟩
  · rw [e, tellLeft_breakQueue left]; simp
  · exact absurd down stays.1

/-- The mask cancels the job of the channel that has the spindle, and leaves the other channels. -/
theorem maskSpindle_channel (c : Nat) : (maskSpindle k p s).channel c = s.channel c ∨
    s.channelOfJob p = some c ∧ (maskSpindle k p s).channel c = (s.channel c).cancelled .cancelled := by
  rcases maskSpindle_cases k p s with ⟨_, left, e⟩ | ⟨_, creel⟩
  · rw [e, tellLeft_channel left]
    split
    · next job => exact .inr ⟨job, rfl⟩
    · exact .inl rfl
  · exact .inl (creel.channel_eq (by simp) c)

theorem maskSpindle_channel_of_job {c : Nat} (piecing : (s.spindle p).state = .piecing) (job : s.channelOfJob p = some c) :
    (maskSpindle k p s).channel c = (s.channel c).cancelled .cancelled := by
  rcases maskSpindle_cases k p s with ⟨_, left, e⟩ | ⟨stays, _⟩
  · rw [e, tellLeft_channel left]; exact if_pos job
  · exact absurd piecing stays.2

end maskSpindle

/-! ### The mask of a range (R39) -/

section maskRange
variable (k : MaskKind) {ps : List Nat} {s : State}

theorem maskRange_steady : s.Steady (ps.foldl (fun x p => maskSpindle k p x) s) := by
  induction ps generalizing s with
  | nil => exact (State.changesOnly.refl [] s).steady (by simp)
  | cons p ps ih => exact (maskSpindle_steady k p s).trans ih

theorem maskRange_not_queued {p : Nat} (hp : p ∈ ps) (down : (s.spindle p).state = .down) (c : Nat) :
    p ∉ (ps.foldl (fun x p => maskSpindle k p x) s).breakQueue c := by
  refine foldl_at_turn (P := fun x => (x.spindle p).state = .down) (Q := fun x => p ∉ x.breakQueue c)
    (fun x q hq hx => ?_) (fun x hx => not_mem_breakQueue_maskSpindle k hx c)
    (fun x q hx h => hx ((maskSpindle_steady k q x).queues c h)) hp down
  rw [maskSpindle_spindle, if_neg (fun h => hq h.1)]
  exact hx

/-- No other channel has the spindle as its job, so that the run comes to it with its channel as it was. -/
theorem maskRange_job_cancelled {p c : Nat} (hp : p ∈ ps) (piecing : (s.spindle p).state = .piecing)
    (hc : c ∈ channelNumbers) (job : (s.channel c).holdsJob p)
    (once : ∀ d ∈ channelNumbers, (s.channel d).job = some p → d = c) :
    (ps.foldl (fun x p => maskSpindle k p x) s).channel c = (s.channel c).cancelled .cancelled := by
  refine foldl_at_turn
    (P := fun x => (x.spindle p).state = .piecing ∧ x.channel c = s.channel c ∧
      ∀ d ∈ channelNumbers, (x.channel d).job = some p → d = c)
    (Q := fun x => x.channel c = (s.channel c).cancelled .cancelled) ?_ ?_ ?_ hp ⟨piecing, rfl, once⟩
  · rintro x q hq ⟨state, same, once⟩
    refine ⟨by rw [maskSpindle_spindle, if_neg (fun h => hq h.1)]; exact state, ?_, fun d hd => ?_⟩
    · rcases maskSpindle_channel k (p := q) (s := x) c with e | ⟨other, _⟩
      · rw [e, same]
      · have held := (State.channelOfJob_spec other).2.2
        rw [same, job.2] at held
        exact absurd (Option.some.inj held).symm hq
    · rcases maskSpindle_channel k (p := q) (s := x) d with e | ⟨_, e⟩
      · rw [e]; exact once d hd
      · rw [e]; exact fun h => nomatch h
  · rintro x ⟨state, same, once⟩
    rw [← same] at job ⊢
    exact maskSpindle_channel_of_job k state (State.channelOfJob_of_holdsJob hc job once)
  · intro x q cancelled
    rcases maskSpindle_channel k (p := q) (s := x) c with e | ⟨other, _⟩
    · rw [e, cancelled]
    · have held := (State.channelOfJob_spec other).2.2
      rw [cancelled] at held
      exact nomatch held

end maskRange

/-! ### CLEAR_RED of one spindle (R41) -/

theorem clearRedSpindle_spindle (s : State) (p q : Nat) : (clearRedSpindle p s).spindle q =
    if p = q ∧ q < 2048 then (if (s.spindle p).state = .red then (s.spindle p).clearRed else s.spindle p)
    else s.spindle q := by
  unfold clearRedSpindle
  split
  · rw [(uncount_changes _ _).spindle_eq (by simp), State.spindle_modSpindle]
  · split
    · next h => rw [h.1]
    · rfl

/-! ### The answer -/

theorem State.accepts.room {s : State} (accepts : s.accepts) : s.mli.replies.length < 8 := accepts.2.2

section answer
variable {s : State} (accepts : s.accepts)
include accepts

theorem exec_spindleMask (src tag f l k : Nat) :
    exec (.spindleMask src tag f l k) s = .next (finish (spindleMask src tag f l k s)) := by
  rw [← takeRequest_of_accepts accepts src tag 0x44 (spindleMask src tag f l k)]; rfl

theorem exec_spindleUnmask (src tag f l : Nat) :
    exec (.spindleUnmask src tag f l) s = .next (finish (spindleUnmask src tag f l s)) := by
  rw [← takeRequest_of_accepts accepts src tag 0x45 (spindleUnmask src tag f l)]; rfl

theorem exec_clearRed (src tag f l : Nat) :
    exec (.clearRed src tag f l) s = .next (finish (clearRed src tag f l s)) := by
  rw [← takeRequest_of_accepts accepts src tag 0x46 (clearRed src tag f l)]; rfl

/-- A request that is only refused: its reply, and nothing else. -/
theorem refusal_answers (src tag code : Nat) (c : ReplyCode) :
    s.answers (finish (reply src tag code c .none s)) src tag code c .none ∧
      s.changesOnly [.replies] (finish (reply src tag code c .none s)) :=
  ⟨reply_answers accepts.room ⟨rfl, rfl⟩ _ _ _ _ _, .via (reply_changes s _ _ _ _ _) (finish_changes _) (by simp)⟩

end answer

theorem finish_reply_spindle (src tag code : Nat) (c : ReplyCode) (d : ReplyData) (s : State) (p : Nat) :
    (finish (reply src tag code c d s)).spindle p = s.spindle p :=
  (reply_changes s _ _ _ _ _).spindle_eq (by simp) p

theorem finish_reply_channel (src tag code : Nat) (c : ReplyCode) (d : ReplyData) (s : State) (n : Nat) :
    (finish (reply src tag code c d s)).channel n = s.channel n :=
  (reply_changes s _ _ _ _ _).channel_eq (by simp) n

theorem finish_reply_breakQueue (src tag code : Nat) (c : ReplyCode) (d : ReplyData) (s : State) (n : Nat) :
    (finish (reply src tag code c d s)).breakQueue n = s.breakQueue n :=
  (reply_changes s _ _ _ _ _).breakQueue_eq (by simp) n

/-! ### SPINDLE_MASK, SPINDLE_UNMASK, CLEAR_RED on their ranges (R38) -/

section commands
variable {s : State} {f l : Nat}

/-- On a range it accepts SPINDLE_MASK is the run over the range: the end of the event finds nothing to do. -/
theorem spindleMask_of_names (src tag : Nat) {k : Nat} {m : MaskKind} (names : s.names f l)
    (kind : maskKindOfCode k = some m) (quiet : s.quiet) :
    spindleMask src tag f l k s =
      reply src tag 0x44 .ok (.count (s.countIn f l fun r => r.state != .masked))
        ((positionRange f l).foldl (fun x p => maskSpindle m p x) s) := by
  obtain ⟨sd, side⟩ := Option.isSome_iff_exists.mp ((s.rangeSide_isSome_iff f l).mpr names)
  simp only [spindleMask, side, kind, conclude_of_quiet ((maskRange_steady m).quiet quiet)]

theorem spindleMask_refused (src tag : Nat) {k : Nat} (bad : ¬ s.names f l ∨ maskKindOfCode k = none) :
    spindleMask src tag f l k s = reply src tag 0x44 .range .none s := by
  unfold spindleMask
  split
  · next side kind =>
    have names := (s.rangeSide_isSome_iff f l).mp (Option.isSome_of_eq_some side)
    exact absurd bad (by simp [names, kind])
  · rfl

theorem spindleUnmask_of_names (src tag : Nat) (names : s.names f l) :
    spindleUnmask src tag f l s =
      reply src tag 0x45 .ok (.count (s.countIn f l fun r => r.state == .masked))
        ((positionRange f l).foldl
          (fun x p => x.modSpindle p fun r => if r.state = .masked then r.unmask s.spindlesPaused else r) s) := by
  rw [spindleUnmask, if_pos ((s.rangeSide_isSome_iff f l).mpr names)]

theorem spindleUnmask_refused (src tag : Nat) (bad : ¬ s.names f l) :
    spindleUnmask src tag f l s = reply src tag 0x45 .range .none s := by
  rw [spindleUnmask, if_neg (mt (s.rangeSide_isSome_iff f l).mp bad)]

theorem clearRed_of_names (src tag : Nat) (names : s.names f l) :
    clearRed src tag f l s =
      reply src tag 0x46 .ok (.count (s.countIn f l fun r => r.state == .red))
        ((positionRange f l).foldl (fun x p => clearRedSpindle p x) s) := by
  rw [clearRed, if_pos ((s.rangeSide_isSome_iff f l).mpr names)]

theorem clearRed_refused (src tag : Nat) (bad : ¬ s.names f l) :
    clearRed src tag f l s = reply src tag 0x46 .range .none s := by
  rw [clearRed, if_neg (mt (s.rangeSide_isSome_iff f l).mp bad)]

theorem State.spindlesPaused_iff (s : State) :
    s.spindlesPaused = true ↔ s.dc.state = .doffing ∨ (s.dc.state = .settle ∧ s.dc.settlePaused = some true) := by
  simp [State.spindlesPaused]

/-- The record of a spindle after an operation on each spindle of an accepted range. -/
theorem spindle_foldl_range {g : Spindle → Spindle} {op : State → Nat → State} (names : s.names f l)
    (own : ∀ x p q, (op x p).spindle q = if p = q ∧ q < 2048 then g (x.spindle p) else x.spindle q) (q : Nat) :
    ((positionRange f l).foldl op s).spindle q = if f ≤ q ∧ q ≤ l then g (s.spindle q) else s.spindle q := by
  have top : l < 2048 := names.2.1
  rw [spindle_foldl own (nodup_positionRange f l)]
  exact if_congr ⟨fun h => mem_positionRange.mp h.1, fun h => ⟨mem_positionRange.mpr h, by omega⟩⟩ rfl rfl

variable (src tag : Nat) (accepts : s.accepts)
include accepts

theorem spindleMask_effect {k : Nat} {m : MaskKind} (names : s.names f l) (kind : maskKindOfCode k = some m)
    (quiet : s.quiet) : ∃ t, exec (.spindleMask src tag f l k) s = .next t ∧
      s.answers t src tag 0x44 .ok
        (.count ((positionRange f l).filter fun p => (s.spindle p).state != .masked).length) ∧
      s.changesOnly [.alerts, .channels, .creel, .downLoad, .queues, .replies, .reports, .rows, .spindles, .units] t ∧
      (∀ p, t.spindle p = if f ≤ p ∧ p ≤ l then (s.spindle p).masked m else s.spindle p) ∧
      (∀ p c, f ≤ p → p ≤ l → (s.spindle p).state = .down → p ∉ t.breakQueue c) ∧
      ∀ p, ∀ c ∈ channelNumbers, f ≤ p → p ≤ l → (s.spindle p).state = .piecing → (s.channel c).holdsJob p →
        (∀ d ∈ channelNumbers, (s.channel d).job = some p → d = c) →
        t.channel c = (s.channel c).cancelled .cancelled := by
  have run : s.changesOnly [.alerts, .channels, .creel, .downLoad, .queues, .reports, .rows, .spindles, .units]
      ((positionRange f l).foldl (fun x p => maskSpindle m p x) s) :=
    .foldl (fun x p => maskSpindle_changes x m p) (.refl _ _)
  refine ⟨_, exec_spindleMask accepts src tag f l k, ?_⟩
  rw [spindleMask_of_names src tag names kind quiet]
  refine ⟨reply_answers accepts.room (run .replies (by simp)) _ _ _ _ _,
    .via (.via (run.mono (by simp)) (reply_changes _ _ _ _ _ _) (by simp)) (finish_changes _) (by simp),
    fun p => ?_, fun p c hf hl down => ?_, fun p c hc hf hl piecing job once => ?_⟩
  · rw [finish_reply_spindle, spindle_foldl_range names fun x p q => maskSpindle_spindle m p x q]
  · rw [finish_reply_breakQueue]
    exact maskRange_not_queued m (mem_positionRange.mpr ⟨hf, hl⟩) down c
  · rw [finish_reply_channel]
    exact maskRange_job_cancelled m (mem_positionRange.mpr ⟨hf, hl⟩) piecing hc job once

theorem spindleUnmask_effect (names : s.names f l) : ∃ t, exec (.spindleUnmask src tag f l) s = .next t ∧
    s.answers t src tag 0x45 .ok
      (.count ((positionRange f l).filter fun p => (s.spindle p).state == .masked).length) ∧
    s.changesOnly [.spindles, .replies] t ∧
    ∀ p, t.spindle p = if f ≤ p ∧ p ≤ l then
      (if (s.spindle p).state = .masked then (s.spindle p).unmask s.spindlesPaused else s.spindle p)
      else s.spindle p := by
  have run : s.changesOnly [.spindles] ((positionRange f l).foldl
      (fun x p => x.modSpindle p fun r => if r.state = .masked then r.unmask s.spindlesPaused else r) s) :=
    .foldl (fun x p => x.modSpindle_changes p _) (.refl _ _)
  refine ⟨_, exec_spindleUnmask accepts src tag f l, ?_⟩
  rw [spindleUnmask_of_names src tag names]
  refine ⟨reply_answers accepts.room (run .replies (by simp)) _ _ _ _ _,
    .via (.via (run.mono (by simp)) (reply_changes _ _ _ _ _ _) (by simp)) (finish_changes _) (by simp), fun p => ?_⟩
  rw [finish_reply_spindle, spindle_foldl_range names fun x p q => x.spindle_modSpindle p q _]

theorem clearRed_effect (names : s.names f l) : ∃ t, exec (.clearRed src tag f l) s = .next t ∧
    s.answers t src tag 0x46 .ok (.count ((positionRange f l).filter fun p => (s.spindle p).state == .red).length) ∧
    s.changesOnly [.alerts, .downLoad, .replies, .reports, .rows, .spindles] t ∧
    ∀ p, t.spindle p = if f ≤ p ∧ p ≤ l then
      (if (s.spindle p).state = .red then (s.spindle p).clearRed else s.spindle p) else s.spindle p := by
  have run : s.changesOnly [.alerts, .downLoad, .reports, .rows, .spindles]
      ((positionRange f l).foldl (fun x p => clearRedSpindle p x) s) :=
    .foldl (fun x p => clearRedSpindle_changes x p) (.refl _ _)
  refine ⟨_, exec_clearRed accepts src tag f l, ?_⟩
  rw [clearRed_of_names src tag names]
  refine ⟨reply_answers accepts.room (run .replies (by simp)) _ _ _ _ _,
    .via (.via (run.mono (by simp)) (reply_changes _ _ _ _ _ _) (by simp)) (finish_changes _) (by simp), fun p => ?_⟩
  rw [finish_reply_spindle, spindle_foldl_range (g := fun r => if r.state = .red then r.clearRed else r) names
    clearRedSpindle_spindle]

end commands

/-- Settles O18: each command is a run over its range that writes every spindle at its own turn; a mask's notices cancel
the job and empty the place in the queue, and leave the end of the event nothing to do. -/
theorem maskUnmaskAndClearRed : Obligations.MaskUnmaskAndClearRed := by
  intro src tag f l s accepts
  refine ⟨fun k m names kind quiet => ?_, fun names => ⟨?_, ?_⟩, fun k bad => ?_, fun bad => ⟨?_, ?_⟩⟩
  · obtain ⟨t, run, answer, frame, spindles, queues, channels⟩ :=
      spindleMask_effect src tag accepts names kind quiet
    refine ⟨t, run, answer, frame, fun p hf hl => ?_, fun p out => ?_, queues, ?_⟩
    · rw [spindles, if_pos ⟨hf, hl⟩, Spindle.masked, Spindle.maskAs_eq]
    · rw [spindles, if_neg (by omega)]
    · intro p c hc hf hl piecing job state once
      rw [channels p c hc hf hl piecing ⟨state, job⟩ once]
      exact ⟨rfl, rfl, rfl, rfl⟩
  · obtain ⟨t, run, answer, frame, spindles⟩ := spindleUnmask_effect src tag accepts names
    refine ⟨t, run, answer, frame, fun p => ?_⟩
    rw [spindles, ← ite_and]
    refine if_ctx_congr and_assoc (fun h => ?_) fun _ => rfl
    simp only [Spindle.unmask_of_masked h.2.2, s.spindlesPaused_iff]
  · obtain ⟨t, run, answer, frame, spindles⟩ := clearRed_effect src tag accepts names
    refine ⟨t, run, answer, frame, fun p => ?_⟩
    rw [spindles, ← ite_and]
    exact if_ctx_congr and_assoc (fun h => Spindle.clearRed_of_red h.2.2) fun _ => rfl
  · exact ⟨_, exec_spindleMask accepts src tag f l k,
      spindleMask_refused src tag bad ▸ refusal_answers accepts src tag 0x44 .range⟩
  · exact ⟨_, exec_spindleUnmask accepts src tag f l,
      spindleUnmask_refused src tag bad ▸ refusal_answers accepts src tag 0x45 .range⟩
  · exact ⟨_, exec_clearRed accepts src tag f l,
      clearRed_refused src tag bad ▸ refusal_answers accepts src tag 0x46 .range⟩

end Sys2Proof.Machine
end
